-- ==== Sys2Proof/Word.lean ====
section
/-! DEFINITION. The words of the LP620: bytes, relay-time stamps, lane words, colour components.
A bit vector stands here only for what the manual treats as bits (lane words, port bytes, stamps that
wrap, 12-bit components); counts, sizes and durations are natural numbers. -/
namespace Sys2Proof

/-- One byte, as a port or the frame memory holds it. -/
abbrev Byte := BitVec 8

/-- Relay time (R71): a 32-bit count of microseconds that wraps. -/
abbrev Stamp := BitVec 32

/-- A lane word (R172): 40 bits, bit 39 sent first. -/
abbrev LaneWord := BitVec 40

/-- One colour component inside the part: 12 bits (scope, Colour). -/
abbrev Component := BitVec 12

/-- A colour written RGB12. -/
structure Rgb where
  r : Component
  g : Component
  b : Component
deriving DecidableEq, Repr, Inhabited

/-- Sparse byte memory: (address, byte) pairs, addresses strictly rising, no byte 0 listed. -/
abbrev Memory := List (Nat × Byte)

end Sys2Proof
end

