-- ==== Sys2Proof/Syntax.lean ====
section
/-! DEFINITION. The commands of the LP620: one constructor of `Instr` for each row of
spec/opcode_table.json, with the operands the row's rule gives it. -/
namespace Sys2Proof

/-- The three pixel lanes. -/
inductive Lane where
  | a | b | c
deriving DecidableEq, Repr, Inhabited

/-- The two control ports. -/
inductive Port where
  | system | link
deriving DecidableEq, Repr, Inhabited

/-- One value for each lane. -/
structure PerLane (α : Type) where
  a : α
  b : α
  c : α
deriving DecidableEq, Repr, Inhabited

/-- One value for each control port. -/
structure PerPort (α : Type) where
  system : α
  link : α
deriving DecidableEq, Repr, Inhabited

def PerLane.get {α : Type} (v : PerLane α) : Lane → α
  | .a => v.a
  | .b => v.b
  | .c => v.c

def PerLane.set {α : Type} (v : PerLane α) (l : Lane) (x : α) : PerLane α :=
  match l with
  | .a => { v with a := x }
  | .b => { v with b := x }
  | .c => { v with c := x }

def PerLane.map {α β : Type} (f : α → β) (v : PerLane α) : PerLane β :=
  { a := f v.a, b := f v.b, c := f v.c }

def PerPort.get {α : Type} (v : PerPort α) : Port → α
  | .system => v.system
  | .link => v.link

def PerPort.set {α : Type} (v : PerPort α) (p : Port) (x : α) : PerPort α :=
  match p with
  | .system => { v with system := x }
  | .link => { v with link := x }

def PerPort.map {α β : Type} (f : α → β) (v : PerPort α) : PerPort β :=
  { system := f v.system, link := f v.link }

/-- A REQUEST transaction: the port it comes on and the data bytes clocked with it, which ten of the twelve requests
ignore (R161). -/
structure PortRequest where
  port : Port
  data : List Byte
deriving DecidableEq, Repr, Inhabited

/-- What one lane delivered for a group period (R19), as the raw 40-bit word where there is one. -/
inductive Delivery where
  | nothing
  | inWindow (w : LaneWord)
  | outOfWindow (w : LaneWord)
deriving DecidableEq, Repr, Inhabited

/-- One bit of one slice entry flipped by the outside world (R52, R53). -/
structure Upset where
  slot : Fin 5
  slice : Fin 270
deriving DecidableEq, Repr

/-- What the outside world did since the previous command, before this one is taken: how many
microseconds of relay time passed (R71), whether the PANEL READY pin fell (its rise is a row of the
table), and which slice entries of the slice table had one more bit flipped (section 3.3). -/
structure Env where
  elapsed : BitVec 32
  panelReadyFell : Bool
  upsets : List Upset
deriving DecidableEq, Repr

/-- The commands. Each carries the `Env` that led up to it, then the row's own operands.
A byte list named `data` is the data bytes of a port transaction as they were shifted in; a request that takes none
ignores them (R161). -/
inductive Instr where
  /-- POWER_ON_RESET (R1, R162): the level of the two profile straps. -/
  | powerOnReset (straps : Fin 4)
  /-- GROUP_PERIOD (R19): what each lane delivered. -/
  | groupPeriod (e : Env) (d : PerLane Delivery)
  /-- LANE_QUIET (R20). -/
  | laneQuiet (e : Env) (l : Lane)
  /-- LANE_ACTIVITY (R20). -/
  | laneActivity (e : Env) (l : Lane)
  /-- STAGING_WRITE_COMPLETION (R137). -/
  | stagingWriteCompletion (e : Env)
  /-- SCAN_READ_COMPLETION (R138). -/
  | scanReadCompletion (e : Env)
  /-- CAPTURE_READ_COMPLETION (R139). -/
  | captureReadCompletion (e : Env)
  /-- REFRESH_COMPLETION (R135). -/
  | refreshCompletion (e : Env)
  /-- REFRESH_DUE (R135). -/
  | refreshDue (e : Env)
  /-- WAIT_DEADLINE (R140) of one port's queued capture read. -/
  | waitDeadline (e : Env) (p : Port)
  /-- SELF_REFRESH_ENTRY (R130). -/
  | selfRefreshEntry (e : Env)
  /-- MEMORY_EXIT_DEADLINE (R131). -/
  | memoryExitDeadline (e : Env)
  /-- LEAD_GATE (R83) of the frame in one slot. -/
  | leadGate (e : Env) (k : Fin 5)
  /-- TMIN_GATE (R84). -/
  | tminGate (e : Env)
  /-- REPEAT_DEADLINE (R85). -/
  | repeatDeadline (e : Env)
  /-- PLANNED_REPEAT (R90). -/
  | plannedRepeat (e : Env)
  /-- GRACE_EXPIRY (R4). -/
  | graceExpiry (e : Env)
  /-- SCAN_LINE (R98). -/
  | scanLine (e : Env)
  /-- SCAN_CLOSE (R106). -/
  | scanClose (e : Env)
  /-- PANEL_READY_RISE (R128). -/
  | panelReadyRise (e : Env)
  /-- WAKE_DEADLINE (R128). -/
  | wakeDeadline (e : Env)
  /-- READ (R159): `count` data bytes are clocked out. -/
  | read (e : Env) (p : Port) (addr : BitVec 24) (count : Nat)
  /-- WRITE (R159). -/
  | write (e : Env) (p : Port) (addr : BitVec 24) (data : List Byte)
  /-- MASKED_WRITE (R159): `data` is mask, value, mask, value, … -/
  | maskedWrite (e : Env) (p : Port) (addr : BitVec 24) (data : List Byte)
  /-- RELAY_MODE_WORD_WRITE (R163), a WRITE or (`masked`) a MASKED_WRITE. -/
  | relayModeWordWrite (e : Env) (p : Port) (masked : Bool) (data : List Byte)
  /-- ENABLES_WRITE (R167), a WRITE or a MASKED_WRITE at byte 6 (`second` false) or 7 of the event view. -/
  | enablesWrite (e : Env) (p : Port) (masked : Bool) (second : Bool) (data : List Byte)
  /-- IDENTIFICATION_READ (R168): a READ that starts at offset 0 to 3 of the event view. -/
  | identificationRead (e : Env) (p : Port) (offset : Fin 4) (count : Nat)
  /-- CAPTURE_WINDOW_READ (R160): `offset` into the capture window, and how many data bytes are clocked
  if the result is ready at once. -/
  | captureWindowRead (e : Env) (p : Port) (offset : BitVec 23) (count : Nat)
  /-- SELECT_RELEASE (R160): `fillers` bytes were clocked before the result was ready, `count` in all. -/
  | selectRelease (e : Env) (p : Port) (fillers count : Nat)
  /-- APPLY_INPUT (R6). -/
  | applyInput (e : Env) (r : PortRequest)
  /-- APPLY_PANEL (R10). -/
  | applyPanel (e : Env) (r : PortRequest)
  /-- COMMIT_OVERLAY (R114). -/
  | commitOverlay (e : Env) (r : PortRequest)
  /-- PIN (R145). -/
  | pin (e : Env) (r : PortRequest)
  /-- RELEASE (R147). -/
  | release (e : Env) (r : PortRequest)
  /-- REALIGN (R27). -/
  | realign (e : Env) (r : PortRequest)
  /-- RELAY_RESET (R18). -/
  | relayReset (e : Env) (r : PortRequest)
  /-- NEXT_RECORD (R154). -/
  | nextRecord (e : Env) (r : PortRequest)
  /-- ACK_CAUSE (R169): `data` begins with the number of the cause. -/
  | ackCause (e : Env) (p : Port) (data : List Byte)
  /-- SET_CAUSE (R170): `data` begins with the number of the cause. -/
  | setCause (e : Env) (p : Port) (data : List Byte)
  /-- LANE_TEST_ON (R40). -/
  | laneTestOn (e : Env) (r : PortRequest)
  /-- LANE_TEST_OFF (R42). -/
  | laneTestOff (e : Env) (r : PortRequest)
  /-- BAD_COMMAND_TRANSACTION (R158, R161): the bytes shifted in, command byte first. -/
  | badCommandTransaction (e : Env) (p : Port) (bytes : List Byte)
deriving DecidableEq, Repr

end Sys2Proof
end

