-- ==== Sys2Proof/Config.lean ====
section
/-! DEFINITION. The free values of the model. -/
namespace Sys2Proof

/-- Which of two orders the part takes at its n-th free choice of order. The manual lets several raisings
of one cause at one event be entered in either order (R165, R166), and gives no order among the records
that one event appends for several slots (R63, R69). Nothing in Lean can evaluate this constant, so a
theorem holds for every order (assumption log 8). It serves for the raisings that one operation makes;
those of different operations of one event keep the order of the operations (assumption log 42). -/
opaque Config.earlierFirst : Nat → Bool

/-- What the held preface of the lane status view shows for a sample format that is no encoding of R172. The manual
says that it is held as unknown (R30) and gives no byte for it; it is taken among the bytes R172 does not use
(assumption log 30). -/
opaque Config.unknownFormat : Nat

end Sys2Proof
end

