-- ==== Sys2Proof/Machine/State.lean ====
section
/-! DEFINITION. The state of the LP620 as plain data, block by block, and the state after power-on reset.
Each field's docstring names the rule of spec/ that gives it. A value that no reset rule states is a
design choice named in the assumption log. -/
namespace Sys2Proof.Machine

/-- Why a command has no meaning here. -/
inductive Refusal where
  /-- An instruction whose meaning is not written yet. Raised by Dispatch only. Safe: the run stops. -/
  | notModelled (mnemonic : String)
deriving DecidableEq, Repr

/-- Why the machine stops. -/
inductive Fault where
  /-- An accepted FS found no slot FREE or eligible for reclaim (R58, R59), which R61 says cannot happen.
  Raised by GROUP_PERIOD only, and only from a state that no run reaches. Safe: the run stops. -/
  | noSlotForFrame
deriving DecidableEq, Repr

/-- A deadline (R71): an event `origin` and the span after it. -/
structure Deadline where
  origin : Stamp
  span : Nat
deriving DecidableEq, Repr

/-! ## Lane receiver and aligner (chapter 2) -/

inductive LaneState where
  | active | faulted | quiet
deriving DecidableEq, Repr, Inhabited

inductive AlignerState where
  | search | locked | degraded
deriving DecidableEq, Repr, Inhabited

inductive AssemblyState where
  | gap | receiving | discarding
deriving DecidableEq, Repr, Inhabited

inductive SampleFormat where
  | rgb444 | ycc444 | ycc422 | unknown
deriving DecidableEq, Repr, Inhabited

inductive RateMode where
  | fixed | variable
deriving DecidableEq, Repr, Inhabited

/-- What the LRA keeps for one lane (R20 to R22, R26, R40, R41). -/
structure LaneRec where
  state : LaneState
  missCount : Nat
  skewCount : Nat
  activitySeen : Bool
  /-- This lane's mark of the search run (R22). -/
  mark : Bool
  /-- 0 to 16 (R26). -/
  rejoinRun : Nat
  testSeen : Bool
  testError : Bool
  /-- Saturates at 65,535 (R41). -/
  testErrorCount : Nat
  /-- The lane test generator: unseeded, or the last 15 bits of its sequence (R41). -/
  generator : Option (BitVec 15)
deriving DecidableEq, Repr, Inhabited

/-- The held preface (R30): a field unset is `none`; the declared interval absent is `none`. -/
structure Preface where
  width : Option (BitVec 32)
  height : Option (BitVec 32)
  format : Option SampleFormat
  depth : Option (BitVec 32)
  rate : Option RateMode
  declared : Option (BitVec 32)
  lowlag : Bool
deriving DecidableEq, Repr, Inhabited

/-- The frame assembly's copy of what it needs of the frame being received (R33). -/
structure RxFrame where
  slot : Fin 5
  arrival : Stamp
  width : Nat
  height : Nat
  depth : Nat
deriving DecidableEq, Repr

/-- One entry of the staging queue (R38). -/
structure StagedLine where
  slot : Fin 5
  arrival : Stamp
  line : Nat
  concealed : Bool
  pixels : List Rgb
deriving DecidableEq, Repr

/-- The lane receiver and aligner. -/
structure Lra where
  lanes : PerLane LaneRec
  aligner : AlignerState
  /-- 0 to 8 (R22). -/
  searchRun : Nat
  assembly : AssemblyState
  /-- The frame being received; present exactly in RECEIVING (R34). -/
  frame : Option RxFrame
  /-- L, the completed lines (R34). -/
  linesDone : Nat
  /-- k, the group index (R34). -/
  groupIndex : Nat
  /-- The line being assembled, pixel 0 first; `none` is marked for concealment (R35). -/
  lineBuffer : List (Option Rgb)
  preface : Preface
  /-- The staging queue, head first, at most 64 lines (R38). -/
  staging : List StagedLine
  /-- Saturates at 2^32 − 1 (R35). -/
  excessWords : Nat
  excessLines : Nat
  testOn : Bool
  /-- Source frame number of the previous accepted FS (R33). -/
  prevFrameNumber : Option (BitVec 8)
deriving DecidableEq, Repr

/-! ## Frame store (chapters 3 and 9) -/

inductive SlotState where
  | free | filling | draining | complete | short
deriving DecidableEq, Repr, Inhabited

inductive SliceState where
  | empty | filling | ready | damaged
deriving DecidableEq, Repr, Inhabited

inductive FrameMode where
  | pass | whole
deriving DecidableEq, Repr, Inhabited

/-- What the check bits of a slice entry will find at its next read (R52, R53). -/
inductive EntryCheck where
  | good | oneBit | uncorrectable
deriving DecidableEq, Repr, Inhabited

/-- A slice entry (R47), with the state of its check bits. -/
structure SliceEntry where
  state : SliceState
  written : Nat
  discarded : Bool
  check : EntryCheck
deriving DecidableEq, Repr, Inhabited

/-- A slot record (R45) with the slot's 270 slice entries (R47). -/
structure Slot where
  state : SlotState
  frameNumber : BitVec 8
  width : Nat
  height : Nat
  depth : Nat
  rate : Option RateMode
  declared : Option (BitVec 32)
  lowlag : Bool
  mode : Option FrameMode
  scale : Nat
  x0 : Nat
  y0 : Nat
  sliceHeight : Nat
  slices : Nat
  arrival : Stamp
  lead : Option Nat
  leadGate : Option Deadline
  /-- The lead gate's reach has been taken (R71, R81). -/
  leadReached : Bool
  predatesReference : Bool
  linesReceived : Nat
  concealedLines : Nat
  readyCount : Nat
  readyMarks : Vector Bool 270
  completion : Option Stamp
  delivery : Option Nat
  newCount : Nat
  lag : Option Stamp
  /-- The late count of the frame's NEW scan, from its close on; 0 before (R95; assumption log 36). -/
  lateSlices : Nat
  repeatCount : Nat
  superseded : Bool
  recorded : Bool
  pinHolders : PerPort Bool
  underScan : Bool
  entries : Vector SliceEntry 270
deriving DecidableEq, Repr

/-- A held pin (R144). -/
structure Pin where
  slot : Fin 5
  arrival : Stamp
  remaining : Nat
deriving DecidableEq, Repr

/-- The frame store: the layout of R13, the slots, the pin records and expiry settings of R144. -/
structure Store where
  slots : Vector Slot 5
  lineBytes : Nat
  slotBytes : Nat
  /-- U. -/
  usable : Nat
  pins : PerPort (Option Pin)
  expiry : PerPort Byte
deriving DecidableEq, Repr

/-! ## Relay controller (chapter 1) -/

inductive RelayState where
  | idle | border | relaying
deriving DecidableEq, Repr, Inhabited

inductive BorderReason where
  | none | laneTest | sourceAbsent | noLock | format
deriving DecidableEq, Repr, Inhabited

/-- The input contract (R5). Accepted depths: bit 0 is 8, bit 1 is 10, bit 2 is 12 (R181). -/
structure InputContract where
  sliceHeight : Nat
  missLimit : Nat
  skewLimit : Nat
  depths : BitVec 3
deriving DecidableEq, Repr

/-- The panel contract (R8), each count in the unit of R8, `memory` in MiB. -/
structure PanelContract where
  pw : Nat
  ph : Nat
  tmin : Nat
  tmax : Nat
  span : Nat
  guardTime : Nat
  lf : Nat
  holdSupported : Bool
  idle : Nat
  grace : Nat
  holdDelay : Nat
  x : Nat
  e : Nat
  border : Rgb
  memory : Nat
deriving DecidableEq, Repr

/-- The relay controller (R1 to R18). -/
structure Relay where
  state : RelayState
  reason : BorderReason
  /-- The refused-preface condition (R1). -/
  refused : Bool
  graceFlag : Bool
  /-- The grace end, as a deadline from the last accepted FS (R4). -/
  graceEnd : Option Deadline
  lastMode : Option FrameMode
  /-- A of the most recent accepted FS since power-on or relay reset (R4). -/
  lastAccepted : Option Stamp
  input : InputContract
  /-- The active panel contract; `none` while it is invalid (R8). -/
  panel : Option PanelContract
  waitingInput : Option InputContract
  waitingPanel : Option PanelContract
deriving DecidableEq, Repr

/-! ## Pacing engine (chapter 4) -/

inductive ScanKind where
  | new | repeat | border
deriving DecidableEq, Repr, Inhabited

/-- P_last, the open figures and the last open kind (section 4.2). -/
structure LastOpen where
  time : Stamp
  tmin : Nat
  tmax : Nat
  idle : Nat
  kind : ScanKind
deriving DecidableEq, Repr

/-- The pacing engine's timing state (section 4.2, R72), the slot references of R64 and R65, and the hold
reference stamp of R123. -/
structure Pacing where
  lastOpen : Option LastOpen
  /-- The Tmin gate's reach has been taken (R71, R84). -/
  tminReached : Bool
  planned : List Deadline
  planM : Nat
  planR : Nat
  /-- Oldest first, at most 8 (R73). -/
  intervals : List Nat
  prevArrival : Option Stamp
  prevSize : Option (Nat × Nat)
  predicted : Option Nat
  /-- Q came from a declared interval (R75, R95). -/
  predictedDeclared : Bool
  penalty : Nat
  clean : Nat
  referenceD : Option Nat
  waitingRepeat : Bool
  presented : Option (Fin 5)
  repeatSource : Option (Fin 5)
  holdReference : Option Stamp
deriving DecidableEq, Repr

/-! ## Scan-out (chapters 5 and 7) -/

inductive ScanOutState where
  | quiet | ready | scanning | holding | waking
deriving DecidableEq, Repr, Inhabited

inductive SliceChoice where
  | undecided | scanned | fallback | border
deriving DecidableEq, Repr, Inhabited

inductive SliceClass where
  | good | late | damaged
deriving DecidableEq, Repr, Inhabited

/-- A slice's fetch decision and its class (R99, R102). -/
structure SliceDecision where
  choice : SliceChoice
  cls : Option SliceClass
deriving DecidableEq, Repr, Inhabited

/-- The placement of a frame as a scan copies it (R99). -/
structure Placement where
  scale : Nat
  x0 : Nat
  y0 : Nat
  width : Nat
  height : Nat
  sliceHeight : Nat
  slices : Nat
deriving DecidableEq, Repr

/-- The current scan (R99), with the source lines the scan-out holds (R104, R138). -/
structure Scan where
  kind : ScanKind
  slot : Option (Fin 5)
  fallback : Option (Fin 5)
  openTime : Stamp
  span : Nat
  pw : Nat
  ph : Nat
  border : Rgb
  placement : Option Placement
  fallbackUsable : Bool
  nextLine : Nat
  decisions : List SliceDecision
  late : Nat
  damaged : Nat
  bordered : Nat
  /-- Some line was drawn in border colour for want of its read (R104, R106). -/
  drewBorder : Bool
  /-- Source lines delivered and still to be drawn (R138). -/
  lines : List (Nat × List Rgb)
deriving DecidableEq, Repr

inductive ScanEnding where
  | closed | aborted
deriving DecidableEq, Repr, Inhabited

/-- The last-scan part of the scan status view (R109). -/
structure LastScan where
  kind : ScanKind
  slot : Option (Fin 5)
  openTime : Stamp
  ending : ScanEnding
  late : Nat
  damaged : Nat
  bordered : Nat
  substituted : Bool
deriving DecidableEq, Repr

inductive HoldTrigger where
  | fs | commit | panelApply | relayReset
deriving DecidableEq, Repr, Inhabited

inductive WakeEnding where
  | ready | late | reset
deriving DecidableEq, Repr, Inhabited

/-- The scan-out unit (R96, R99, R109, R133). -/
structure ScanOut where
  state : ScanOutState
  scan : Option Scan
  lastScan : Option LastScan
  lastHoldEntry : Option Stamp
  lastHoldExit : Option (Stamp × HoldTrigger)
  wakeDeadline : Option Deadline
  lastWakeEnding : Option WakeEnding
deriving DecidableEq, Repr

/-- A marker on the panel link (R97). -/
inductive Marker where
  | scanOpen (kind : ScanKind)
  | line (y : Nat) (pixels : List Rgb)
  | scanClose
  | scanAbort
  | holdEnter
  | holdExit
deriving DecidableEq, Repr

/-! ## Overlay unit (chapter 6) -/

/-- A palette entry (R110). -/
structure PaletteEntry where
  color : Rgb
  alpha : Byte
deriving DecidableEq, Repr, Inhabited

/-- A plane record (R110, R178). -/
structure Plane where
  enable : Bool
  kind : Byte
  alpha : Byte
  x : BitVec 12
  y : BitVec 12
  width : BitVec 12
  height : BitVec 12
  fill : Rgb
  base : BitVec 16
  stride : BitVec 16
  palette : Vector PaletteEntry 4
deriving DecidableEq, Repr

/-- Why a plane was skipped (R117). -/
inductive SkipReason where
  | zeroSize | offPanel | badKind | badBitmap | extent
deriving DecidableEq, Repr, Inhabited

/-- A plane's outcome in the commit report (R119). -/
inductive PlaneOutcome where
  | disabled
  | shown (width height : Nat)
  | clipped (width height : Nat)
  | skipped (why : SkipReason)
deriving DecidableEq, Repr

/-- The commit report (R119). -/
structure CommitReport where
  number : BitVec 16
  replaced : Nat
  openTime : Stamp
  kind : ScanKind
  pw : Nat
  ph : Nat
  outcomes : Vector PlaneOutcome 8
deriving DecidableEq, Repr

/-- The overlay unit (R110 to R119). -/
structure Overlay where
  pendingList : Vector Plane 8
  active : Vector Plane 8
  memory : Memory
  /-- The waiting commit and its number (R114). -/
  waiting : Option (BitVec 16 × Vector Plane 8)
  commitNumber : BitVec 16
  replaced : Nat
  report : Option CommitReport
deriving DecidableEq, Repr

/-! ## Memory port (chapter 8) -/

inductive PowerState where
  | active | selfRefresh | waking
deriving DecidableEq, Repr, Inhabited

/-- A scan read waiting at the memory port (R104, R138). -/
structure ScanRead where
  slot : Fin 5
  line : Nat
  width : Nat
deriving DecidableEq, Repr

/-- A capture read in its port's queue (R139, R149). -/
structure CaptureRead where
  slot : Fin 5
  arrival : Stamp
  line : Nat
  first : Nat
  count : Nat
  wait : Deadline
deriving DecidableEq, Repr

/-- The transfer in progress (R134), with the frame memory address its grant gave it. -/
inductive Transfer where
  | refresh
  /-- `live` until the scan that asked for it closes or is aborted (R138). -/
  | scanRead (r : ScanRead) (addr : Nat) (live : Bool)
  /-- `queued` while the line is still the head of the staging queue (R137). -/
  | stagingWrite (l : StagedLine) (addr : Nat) (queued : Bool)
  /-- `wanted` until the port's transaction ends without it (R160). -/
  | captureRead (p : Port) (r : CaptureRead) (addr : Nat) (wanted : Bool)
deriving DecidableEq, Repr

/-- The memory port (R134 to R142) and the frame memory behind it (R13). -/
structure MemPort where
  power : PowerState
  exitDeadline : Option Deadline
  /-- 0 to 8 (R135). -/
  owed : Nat
  timerRunning : Bool
  transfer : Option Transfer
  /-- Oldest first (R138). -/
  scanReads : List ScanRead
  capture : PerPort (Option CaptureRead)
  lastGranted : Port
  frameMemory : Memory
deriving DecidableEq, Repr

/-! ## Record unit (chapter 10) -/

/-- A frame record (R152). P and lag are present together. -/
structure FrameRecord where
  sequence : BitVec 16
  frameNumber : BitVec 8
  slot : Fin 5
  mode : Option FrameMode
  short : Bool
  superseded : Bool
  concealed : Bool
  substituted : Bool
  arrival : Stamp
  delivery : Option Nat
  lead : Option Nat
  presented : Option (Stamp × Stamp)
  late : Nat
  damaged : Nat
  concealedLines : Nat
  repeats : Nat
deriving DecidableEq, Repr

/-- A port's record view (R154): the record or NONE, with the snapshot of the counts. -/
structure RecordView where
  record : Option FrameRecord
  lost : Nat
  unread : Nat
deriving DecidableEq, Repr

/-- What the record unit keeps for one port (R154). The cursor is the record `unread` places from the
ring's newest end. -/
structure Reader where
  unread : Nat
  lost : Nat
  view : RecordView
deriving DecidableEq, Repr

/-- The statistics counters (R156), each saturating at 2^32 − 1. -/
structure Stats where
  framesAccepted : Nat
  supersededFrames : Nat
  repeatScans : Nat
  borderScans : Nat
  lateSlices : Nat
  damagedSlices : Nat
  concealedLines : Nat
  voteFailures : Nat
  unknownDescriptors : Nat
  sequenceGaps : Nat
  stagingOverflow : Nat
  correctable : Nat
  misses : PerLane Nat
  skews : PerLane Nat
  faults : PerLane Nat
deriving DecidableEq, Repr

/-- The record unit (R153 to R157). -/
structure Records where
  /-- Oldest first, at most 32. -/
  ring : List FrameRecord
  nextSequence : BitVec 16
  readers : PerPort Reader
  repeatTally : Nat
  stats : Stats
deriving DecidableEq, Repr

/-! ## Port and event unit (chapters 11 and 12) -/

/-- The causes of R165, in their order of priority. -/
inductive Cause where
  | sliceTableUncorrectable | lockLost | laneFault | formatRefused | panelLate | pinExpired
  | accessDenied | lateSlices | contractApplied | relayStateChanged | overlayApplied | recordsWaiting
deriving DecidableEq, Repr, Inhabited

/-- One cause in one port's set (R166). -/
structure CauseFlags where
  pending : Bool
  repeated : Bool
  detail : BitVec 16
deriving DecidableEq, Repr, Inhabited

/-- The status of a transaction (R174). -/
inductive Status where
  | ok | partialWrite | denied | badCommand | badAddress | captureLate | notPermitted | waiting
  | invalid | noPin | noRoom | pinHeld | pinNotHeld | notReady
deriving DecidableEq, Repr, Inhabited

/-- The first denial in a port's access trap (R164). -/
structure Trap where
  command : Byte
  address : BitVec 24
  time : Stamp
  further : Bool
deriving DecidableEq, Repr

/-- A capture-window transaction that is still open (R160): waiting, or ready with its result. -/
inductive CaptureTxn where
  | waiting
  | ready (status : Status) (data : List Byte)
deriving DecidableEq, Repr

/-- What the PEU keeps for one port. -/
structure PortCtl where
  /-- The status of the port's previous transaction (R158). -/
  prevStatus : Status
  causes : Vector CauseFlags 12
  /-- Bit n − 1 is the enable of cause n (R167, R179). -/
  enables : BitVec 12
  /-- The cause the identification is frozen on, or `none` while it is free (R168). -/
  frozen : Option Cause
  trap : Option Trap
  /-- The open capture-window transaction, if one is open (R160). -/
  txn : Option CaptureTxn
  /-- The bytes the part shifted out in the port's latest ended transaction (R158). The model's record of
  the data-out pin. -/
  dataOut : List Byte
deriving DecidableEq, Repr

/-- The port and event unit (R158 to R171, R176, R181). -/
structure Peu where
  profile : Fin 4
  /-- The relay mode word as one byte (R176). -/
  modeWord : Byte
  pendingInput : InputContract
  pendingPanel : PanelContract
  ports : PerPort PortCtl
deriving DecidableEq, Repr

/-! ## The whole part -/

/-- The state of the LP620, with the queue of commands waiting at it. -/
structure State where
  /-- Commands waiting, first in first out. -/
  pending : List Instr
  /-- Relay time now (R71). -/
  relayTime : Stamp
  /-- The level of the PANEL READY pin (R96, R128). -/
  panelReady : Bool
  /-- The markers the latest command sent on the panel link, first sent first (R97). The model's record of
  the link's pins. -/
  link : List Marker
  /-- How many free choices of order have been taken. The model's own field (Config.earlierFirst). -/
  choices : Nat
  /-- The recorded idle interval since P_last has passed. It stays set while relay time wraps, so that a relay reset finds
  the deadline that passed in a hold of any length (R94, R127). The model's own field (assumption log 37). -/
  idlePassed : Bool
  lra : Lra
  store : Store
  relay : Relay
  pacing : Pacing
  sco : ScanOut
  ovl : Overlay
  mpt : MemPort
  records : Records
  peu : Peu
deriving DecidableEq, Repr

/-! ## Power-on reset values -/

def SliceEntry.reset : SliceEntry := { state := .empty, written := 0, discarded := false, check := .good }

/-- A FREE slot: every field but the slot number cleared, every entry EMPTY (R45, R47). -/
def Slot.reset : Slot :=
  { state := .free, frameNumber := 0, width := 0, height := 0, depth := 0, rate := none, declared := none,
    lowlag := false, mode := none, scale := 0, x0 := 0, y0 := 0, sliceHeight := 0, slices := 0, arrival := 0,
    lead := none, leadGate := none, leadReached := false, predatesReference := false, linesReceived := 0,
    concealedLines := 0, readyCount := 0, readyMarks := Vector.replicate 270 false, completion := none,
    delivery := none, newCount := 0, lag := none, lateSlices := 0, repeatCount := 0, superseded := false, recorded := false,
    pinHolders := { system := false, link := false }, underScan := false,
    entries := Vector.replicate 270 SliceEntry.reset }

def LaneRec.reset : LaneRec :=
  { state := .active, missCount := 0, skewCount := 0, activitySeen := false, mark := false, rejoinRun := 0,
    testSeen := false, testError := false, testErrorCount := 0, generator := none }

def Preface.reset : Preface :=
  { width := none, height := none, format := none, depth := none, rate := none, declared := none,
    lowlag := false }

def Lra.reset : Lra :=
  { lanes := { a := LaneRec.reset, b := LaneRec.reset, c := LaneRec.reset }, aligner := .search,
    searchRun := 0, assembly := .gap, frame := none, linesDone := 0, groupIndex := 0, lineBuffer := [],
    preface := Preface.reset, staging := [], excessWords := 0, excessLines := 0, testOn := false,
    prevFrameNumber := none }

def Store.reset : Store :=
  { slots := Vector.replicate 5 Slot.reset, lineBytes := 0, slotBytes := 0, usable := 0,
    pins := { system := none, link := none }, expiry := { system := 8, link := 8 } }

/-- The input contract after power-on reset (R5, R181). -/
def InputContract.reset : InputContract := { sliceHeight := 16, missLimit := 32, skewLimit := 32, depths := 7 }

/-- The pending panel copy after power-on reset: all zeros (R8, R181). -/
def PanelContract.zero : PanelContract :=
  { pw := 0, ph := 0, tmin := 0, tmax := 0, span := 0, guardTime := 0, lf := 0, holdSupported := false,
    idle := 0, grace := 0, holdDelay := 0, x := 0, e := 0, border := { r := 0, g := 0, b := 0 }, memory := 0 }

def Relay.reset : Relay :=
  { state := .idle, reason := .none, refused := false, graceFlag := false, graceEnd := none, lastMode := none,
    lastAccepted := none, input := InputContract.reset, panel := none, waitingInput := none,
    waitingPanel := none }

def Pacing.reset : Pacing :=
  { lastOpen := none, tminReached := false, planned := [], planM := 0, planR := 0, intervals := [],
    prevArrival := none, prevSize := none, predicted := none, predictedDeclared := false, penalty := 0,
    clean := 0, referenceD := none, waitingRepeat := false, presented := none, repeatSource := none,
    holdReference := none }

def ScanOut.reset : ScanOut :=
  { state := .quiet, scan := none, lastScan := none, lastHoldEntry := none, lastHoldExit := none,
    wakeDeadline := none, lastWakeEnding := none }

def Plane.reset : Plane :=
  { enable := false, kind := 0, alpha := 0, x := 0, y := 0, width := 0, height := 0,
    fill := { r := 0, g := 0, b := 0 }, base := 0, stride := 0,
    palette := Vector.replicate 4 { color := { r := 0, g := 0, b := 0 }, alpha := 0 } }

def Overlay.reset : Overlay :=
  { pendingList := Vector.replicate 8 Plane.reset, active := Vector.replicate 8 Plane.reset, memory := [],
    waiting := none, commitNumber := 0, replaced := 0, report := none }

/-- The memory port after power-on reset (R142); the frame memory reads 0 everywhere (R150). -/
def MemPort.reset : MemPort :=
  { power := .active, exitDeadline := none, owed := 0, timerRunning := true, transfer := none, scanReads := [],
    capture := { system := none, link := none }, lastGranted := .link, frameMemory := [] }

def Stats.reset : Stats :=
  { framesAccepted := 0, supersededFrames := 0, repeatScans := 0, borderScans := 0, lateSlices := 0,
    damagedSlices := 0, concealedLines := 0, voteFailures := 0, unknownDescriptors := 0, sequenceGaps := 0,
    stagingOverflow := 0, correctable := 0, misses := { a := 0, b := 0, c := 0 },
    skews := { a := 0, b := 0, c := 0 }, faults := { a := 0, b := 0, c := 0 } }

/-- A port's reader after power-on reset. The view reads NONE (R157); the lost and unread counts it shows before the
port's first NEXT_RECORD are 0 (DESIGN CHOICE, assumption log 31). -/
def Reader.reset : Reader := { unread := 0, lost := 0, view := { record := none, lost := 0, unread := 0 } }

def Records.reset : Records :=
  { ring := [], nextSequence := 0, readers := { system := Reader.reset, link := Reader.reset },
    repeatTally := 0, stats := Stats.reset }

/-- A port after power-on reset. A capture transaction that was open is dropped, and its select line released later ends
nothing and sets no status (DESIGN CHOICE, assumption log 44). -/
def PortCtl.reset : PortCtl :=
  { prevStatus := .ok, causes := Vector.replicate 12 { pending := false, repeated := false, detail := 0 },
    enables := 0, frozen := none, trap := none, txn := none, dataOut := [] }

/-- The PEU after power-on reset, with the profile the straps select (R162); the mode word is 0x79 (R176). -/
def Peu.reset (straps : Fin 4) : Peu :=
  { profile := straps, modeWord := 0x79, pendingInput := InputContract.reset,
    pendingPanel := PanelContract.zero, ports := { system := PortCtl.reset, link := PortCtl.reset } }

/-- The part right after power-on reset with given straps. -/
def State.powerOn (straps : Fin 4) : State :=
  { pending := [], relayTime := 0, panelReady := false, link := [], choices := 0, idlePassed := false,
    lra := Lra.reset, store := Store.reset, relay := Relay.reset, pacing := Pacing.reset, sco := ScanOut.reset,
    ovl := Overlay.reset, mpt := MemPort.reset, records := Records.reset, peu := Peu.reset straps }

/-- The machine right after reset. The straps read 0 (assumption log 1). -/
def State.reset : State := State.powerOn 0

end Sys2Proof.Machine
end

