-- ==== Sys2Proof/Machine/Ops.lean ====
section
/-! DEFINITION. The operations that every block shares: integer arithmetic of the Conventions, byte images,
sparse memory, deadlines, the free choice of order, the arrival of a command, and slot access. -/
namespace Sys2Proof.Machine

/-! ## Arithmetic (scope, Arithmetic) -/

/-- ceil(a / b). -/
def ceilDiv (a b : Nat) : Nat := (a + b - 1) / b

/-- A counter that stops at `cap`. -/
def satInc (cap n : Nat) : Nat := min (n + 1) cap

/-- `n` saturating increments at once. -/
def satAdd (cap n k : Nat) : Nat := min (n + k) cap

/-- The largest value of a 32-bit saturating counter. -/
def max32 : Nat := 4294967295

/-! ## Byte images (chapter 13: most significant byte first) -/

/-- `n` bytes of a value, most significant first. -/
def beBytes : Nat → Nat → List Byte
  | 0, _ => []
  | n + 1, v => BitVec.ofNat 8 (v / 256 ^ n) :: beBytes n v

/-- The value of bytes, most significant first. -/
def beValue (bs : List Byte) : Nat := bs.foldl (fun acc b => acc * 256 + b.toNat) 0

/-- A flag as one byte (R175). -/
def flagByte (b : Bool) : List Byte := [if b then 1 else 0]

/-- The value of the `n` bytes at `off` of an image. -/
def fieldAt (image : List Byte) (off n : Nat) : Nat := beValue ((image.drop off).take n)

/-- One byte under a mask and value pair (R159). -/
def mergeByte (old mask value : Byte) : Byte := (old &&& ~~~mask) ||| (value &&& mask)

/-- Mask and value pairs over the first bytes of an image; pairs beyond its end are discarded (R159). -/
def mergeBytes : List Byte → List (Byte × Byte) → List Byte
  | [], _ => []
  | bs, [] => bs
  | b :: bs, (m, v) :: ps => mergeByte b m v :: mergeBytes bs ps

/-- Mask and value pairs over an image from an offset upward (R159). -/
def mergeAt (image : List Byte) (off : Nat) (ps : List (Byte × Byte)) : List Byte :=
  image.take off ++ mergeBytes (image.drop off) ps

/-- A WRITE's data as pairs: every bit selected (R163). -/
def plainPairs (data : List Byte) : List (Byte × Byte) := data.map fun v => (0xFF, v)

/-- A MASKED_WRITE's data as pairs; an incomplete last pair is discarded (R159). -/
def maskedPairs : List Byte → List (Byte × Byte)
  | m :: v :: rest => (m, v) :: maskedPairs rest
  | _ => []

/-! ## Sparse memory -/

/-- The byte at an address; an unlisted address reads 0 (R112, R150). -/
def readByte : Memory → Nat → Byte
  | [], _ => 0
  | (k, v) :: m, a => if k = a then v else readByte m a

/-- `n` bytes from an address upward. -/
def readBytes (m : Memory) (a n : Nat) : List Byte := (List.range n).map fun i => readByte m (a + i)

/-- The cells that bytes from `base` upward list: those that are not 0. -/
def cellsOf : Nat → List Byte → Memory
  | _, [] => []
  | base, b :: bs => if b = 0 then cellsOf (base + 1) bs else (base, b) :: cellsOf (base + 1) bs

/-- Write bytes from `base` upward. -/
def writeBytes (m : Memory) (base : Nat) (bs : List Byte) : Memory :=
  m.filter (fun c => decide (c.1 < base)) ++ cellsOf base bs ++
    m.filter (fun c => decide (base + bs.length ≤ c.1))

/-- The canonical form: addresses strictly rising, no byte 0 listed. -/
abbrev Memory.wf (m : Memory) : Prop :=
  m.Pairwise (fun p q => p.1 < q.1) ∧ ∀ c ∈ m, c.2 ≠ 0

/-! ## Stored pixels (R13: 36 bits each, pixel x at bits 36x of its line) -/

/-- A pixel as its 36 bits, R first. -/
def Rgb.bits (p : Rgb) : Nat := p.r.toNat * 2 ^ 24 + p.g.toNat * 2 ^ 12 + p.b.toNat

/-- The pixel of 36 bits. -/
def rgbOfBits (v : Nat) : Rgb :=
  { r := BitVec.ofNat 12 (v / 2 ^ 24), g := BitVec.ofNat 12 (v / 2 ^ 12), b := BitVec.ofNat 12 v }

/-- A line's pixels as bytes, the first pixel in the most significant bits (assumption log 12). A last odd pixel
ends in half a byte, whose other half keeps `tail`. -/
def packPixels : List Rgb → Nat → List Byte
  | [], _ => []
  | [p], tail => beBytes 5 (Rgb.bits p * 16 + tail % 16)
  | p :: q :: ps, tail => beBytes 9 (Rgb.bits p * 2 ^ 36 + Rgb.bits q) ++ packPixels ps tail

/-- Pixel x of the line that begins at byte `addr`. -/
def readPixel (m : Memory) (addr x : Nat) : Rgb :=
  let v := beValue (readBytes m (addr + 36 * x / 8) 5)
  if x % 2 = 0 then rgbOfBits (v / 16) else rgbOfBits v

/-- `n` pixels of the line at `addr`, from pixel `first`. -/
def readPixels (m : Memory) (addr first n : Nat) : List Rgb :=
  (List.range n).map fun i => readPixel m addr (first + i)

/-- Write a line's pixels at byte `addr` (R137). -/
def writePixels (m : Memory) (addr : Nat) (ps : List Rgb) : Memory :=
  writeBytes m addr (packPixels ps (readByte m (addr + 36 * ps.length / 8)).toNat)

/-! ## Time (R71) -/

/-- The interval from one stamp to a later one, modulo 2^32. -/
def since (t earlier : Stamp) : Nat := (t - earlier).toNat

/-- The deadline is reached: time since its origin equals or exceeds its span. -/
def Deadline.due (d : Deadline) (t : Stamp) : Bool := decide (d.span ≤ since t d.origin)

/-- The relay time at which a deadline falls. -/
def Deadline.time (d : Deadline) : Stamp := d.origin + BitVec.ofNat 32 d.span

/-- An optional deadline is set and reached. -/
def deadlineDue (d : Option Deadline) (t : Stamp) : Bool :=
  match d with
  | some d => d.due t
  | none => false

/-! ## Free order (assumption log 8) -/

/-- Put `x` at a place the part chooses among `ys`; the second result is the next choice's number. -/
def insertFree {α : Type} (n : Nat) (x : α) : List α → List α × Nat
  | [] => ([x], n)
  | y :: ys =>
    if Config.earlierFirst n then (x :: y :: ys, n + 1)
    else
      let r := insertFree (n + 1) x ys
      (y :: r.1, r.2)

/-- The list in an order the part chooses. No choice is taken for fewer than two elements. -/
def freeOrder {α : Type} (n : Nat) : List α → List α × Nat
  | [] => ([], n)
  | x :: xs =>
    let r := freeOrder n xs
    insertFree r.2 x r.1

/-- Take each element's action on the state, in an order the part chooses. -/
def State.eachFree {α : Type} (xs : List α) (f : State → α → State) (s : State) : State :=
  let r := freeOrder s.choices xs
  r.1.foldl f { s with choices := r.2 }

/-! ## Slots -/

def State.slot (s : State) (k : Fin 5) : Slot := s.store.slots[k]

def State.modSlot (s : State) (k : Fin 5) (f : Slot → Slot) : State :=
  { s with store.slots := s.store.slots.set k (f s.store.slots[k]) }

/-- Slots 0 to U − 1 (R46). -/
def State.usableSlots (s : State) : List (Fin 5) :=
  (List.finRange 5).filter fun k => decide (k.val < s.store.usable)

/-- The slot holds the frame with this arrival stamp (R50, R139). -/
def State.holdsFrame (s : State) (k : Fin 5) (a : Stamp) : Bool :=
  decide ((s.slot k).state ≠ .free) && decide ((s.slot k).arrival = a)

/-- A slot's age: relay time minus A, modulo 2^32 (R59). -/
def State.age (s : State) (k : Fin 5) : Nat := since s.relayTime (s.slot k).arrival

/-- The slot with the oldest A, the one of greatest age (R59). Of slots with equal stamps the lowest-numbered is taken
(DESIGN CHOICE, assumption log 43). -/
def State.oldest (s : State) : List (Fin 5) → Option (Fin 5)
  | [] => none
  | k :: ks =>
    match s.oldest ks with
    | none => some k
    | some j => if s.age k < s.age j then some j else some k

/-- The slot with the youngest A (R65, R83, R145). Of slots with equal stamps the lowest-numbered is taken (DESIGN
CHOICE, assumption log 43). -/
def State.youngest (s : State) : List (Fin 5) → Option (Fin 5)
  | [] => none
  | k :: ks =>
    match s.youngest ks with
    | none => some k
    | some j => if s.age j < s.age k then some j else some k

/-- The lines slice j of a frame holds (section 3.2). -/
def Slot.capacity (r : Slot) (j : Nat) : Nat := min r.sliceHeight (r.height - j * r.sliceHeight)

def Slot.entry (r : Slot) (j : Nat) : SliceEntry := r.entries[j]?.getD SliceEntry.reset

def Slot.setEntry (r : Slot) (j : Nat) (x : SliceEntry) : Slot :=
  { r with entries := r.entries.setIfInBounds j x }

def Slot.readyMark (r : Slot) (j : Nat) : Bool := r.readyMarks[j]?.getD false

/-- Slice j enters READY: its mark is set and the ready count rises (R45, R50). -/
def Slot.markReady (r : Slot) (j : Nat) : Slot :=
  { r with readyMarks := r.readyMarks.setIfInBounds j true, readyCount := r.readyCount + 1 }

/-- Slice j leaves READY, if its mark says it was there (R53). -/
def Slot.unmarkReady (r : Slot) (j : Nat) : Slot :=
  if r.readyMark j then
    { r with readyMarks := r.readyMarks.setIfInBounds j false, readyCount := r.readyCount - 1 }
  else r

/-- Every entry 0 to N − 1 is READY or DAMAGED (R54, R55). -/
def Slot.resolved (r : Slot) : Bool :=
  (List.range r.slices).all fun j =>
    decide ((r.entry j).state = .ready) || decide ((r.entry j).state = .damaged)

/-- The byte address of source line y of the frame in slot k (R13). -/
def State.lineAddr (s : State) (k : Fin 5) (y : Nat) : Nat :=
  k.val * s.store.slotBytes + y * s.store.lineBytes

/-! ## Relay mode word (R176) -/

inductive LowlagPolicy where
  | off | auto | on | reserved
deriving DecidableEq, Repr, Inhabited

def lowlagPolicy (w : Byte) : LowlagPolicy :=
  match w.toNat % 4 with
  | 0 => .off
  | 1 => .auto
  | 2 => .on
  | _ => .reserved

def State.lowlag (s : State) : LowlagPolicy := lowlagPolicy s.peu.modeWord
def State.holdPermit (s : State) : Bool := s.peu.modeWord.getLsbD 2
def State.scalePermit (s : State) : Bool := s.peu.modeWord.getLsbD 3
def State.lfcPermit (s : State) : Bool := s.peu.modeWord.getLsbD 4
def State.rejoinPermit (s : State) : Bool := s.peu.modeWord.getLsbD 5
def State.concealPermit (s : State) : Bool := s.peu.modeWord.getLsbD 6

/-! ## Contract values -/

/-- The active panel contract; all zeros while it is invalid, when only the relay status view shows it (R2, R3;
DESIGN CHOICE, assumption log 30). -/
def State.contract (s : State) : PanelContract := s.relay.panel.getD PanelContract.zero

/-! ## The panel link (R97) -/

def State.send (s : State) (m : Marker) : State := { s with link := s.link ++ [m] }

/-! ## Arrival of a command -/

/-- One more bit of an entry flipped: one is correctable, more are not (section 3.3). -/
def SliceEntry.strike (x : SliceEntry) : SliceEntry :=
  { x with check := match x.check with
      | .good => .oneBit
      | .oneBit => .uncorrectable
      | .uncorrectable => .uncorrectable }

def State.strike (s : State) (u : Upset) : State :=
  s.modSlot u.slot fun r => r.setEntry u.slice.val ((r.entry u.slice.val).strike)

/-- Whether the recorded idle interval since P_last has passed `n` microseconds from now, counted without a wrap from one
advance of relay time to the next (R94, R127). -/
def State.idleAfter (s : State) (n : Nat) : Bool :=
  s.idlePassed ||
    match s.pacing.lastOpen with
    | some o => decide (o.idle ≤ since s.relayTime o.time + n)
    | none => false

/-- Relay time advances (R71), and the record of the link starts afresh. -/
def State.advance (s : State) (n : Stamp) : State :=
  { s with relayTime := s.relayTime + n, link := [], idlePassed := s.idleAfter n.toNat }

/-- What came about before a command is taken: relay time advanced, the PANEL READY pin may have fallen, bits of slice
entries may have flipped. -/
def State.arrive (s : State) (e : Env) : State :=
  e.upsets.foldl State.strike { s.advance e.elapsed with panelReady := s.panelReady && !e.panelReadyFell }

/-- One microsecond with no command waiting (R71). -/
def State.tick (s : State) : State := s.advance 1

end Sys2Proof.Machine
end

