-- ==== Sys2Proof/Machine/Operands.lean ====
section
/-! DEFINITION. The operand forms: lane words and descriptor values (R172, R173), the control map and its
regions (R175), the rights of the access profiles (R162). -/
namespace Sys2Proof.Machine

/-! ## Lane words (R172) -/

/-- Bits 39 and 38 carry the synchronisation pattern 10. -/
def hasSync (w : LaneWord) : Bool := decide (w.extractLsb' 38 2 = 2#2)

def payload (w : LaneWord) : BitVec 36 := w.extractLsb' 0 36

inductive WordKind where
  | fill | pixel | mark | descriptor
deriving DecidableEq, Repr, Inhabited

/-- Bits 37 and 36. -/
def wordKind (w : LaneWord) : WordKind :=
  match (w.extractLsb' 36 2).toNat with
  | 0 => .fill
  | 1 => .pixel
  | 2 => .mark
  | _ => .descriptor

/-- MARK or DESCRIPTOR. -/
def isControl (w : LaneWord) : Bool := decide (wordKind w = .mark) || decide (wordKind w = .descriptor)

/-- A PIXEL word's three components: R in bits 35 to 24, G in 23 to 12, B in 11 to 0. -/
def pixelOf (w : LaneWord) : Rgb :=
  { r := w.extractLsb' 24 12, g := w.extractLsb' 12 12, b := w.extractLsb' 0 12 }

/-- A MARK's code, or a DESCRIPTOR's field index: bits 35 to 32. -/
def wordCode (w : LaneWord) : Nat := (w.extractLsb' 32 4).toNat

/-- An FS's source frame number: bits 31 to 24. -/
def frameNumberOf (w : LaneWord) : BitVec 8 := w.extractLsb' 24 8

/-- An FS's NEW_SEQUENCE flag: bit 16. -/
def newSequence (w : LaneWord) : Bool := w.getLsbD 16

/-- A DESCRIPTOR's value: bits 31 to 0. -/
def descriptorValue (w : LaneWord) : BitVec 32 := w.extractLsb' 0 32

/-- The word a lane delivered, in or out of window; a word without the pattern is no word (R19). -/
def deliveredWord : Delivery → Option LaneWord
  | .nothing => none
  | .inWindow w => if hasSync w then some w else none
  | .outOfWindow w => if hasSync w then some w else none

inductive LaneOutcome where
  | inWindow | outOfWindow | nothing
deriving DecidableEq, Repr, Inhabited

/-- The outcome of a group period for one lane (R19). -/
def outcomeOf : Delivery → LaneOutcome
  | .nothing => .nothing
  | .inWindow w => if hasSync w then .inWindow else .nothing
  | .outOfWindow w => if hasSync w then .outOfWindow else .nothing

/-! ## Descriptor values (R30, R172, R173) -/

def sampleFormatOf (v : BitVec 32) : SampleFormat :=
  match v.toNat with
  | 0 => .rgb444
  | 1 => .ycc444
  | 2 => .ycc422
  | _ => .unknown

/-- 0 is FIXED; 1 and every other value is held as VARIABLE. -/
def rateModeOf (v : BitVec 32) : RateMode := if v = 0 then .fixed else .variable

/-- A declared interval of 0 makes the field absent. -/
def declaredOf (v : BitVec 32) : Option (BitVec 32) := if v = 0 then none else some v

/-- An accepted descriptor writes its value into the field of its index; index 7 and above writes none. -/
def Preface.accept (h : Preface) (index : Nat) (v : BitVec 32) : Preface :=
  match index with
  | 0 => { h with width := some v }
  | 1 => { h with height := some v }
  | 2 => { h with format := some (sampleFormatOf v) }
  | 3 => { h with depth := some v }
  | 4 => { h with rate := some (rateModeOf v) }
  | 5 => { h with declared := declaredOf v }
  | 6 => { h with lowlag := v.getLsbD 0 }
  | _ => h

/-! ## Transaction bytes (R174) -/

def cmdRead : Byte := 0x01
def cmdWrite : Byte := 0x02
def cmdMaskedWrite : Byte := 0x03
def cmdRequest : Byte := 0x04

def Status.code : Status → Byte
  | .ok => 0x00
  | .partialWrite => 0x01
  | .denied => 0x02
  | .badCommand => 0x03
  | .badAddress => 0x04
  | .captureLate => 0x05
  | .notPermitted => 0x10
  | .waiting => 0x11
  | .invalid => 0x12
  | .noPin => 0x14
  | .noRoom => 0x15
  | .pinHeld => 0x16
  | .pinNotHeld => 0x17
  | .notReady => 0x18

/-- The transaction's bytes name none of the four commands, or end before the third address byte (R158). -/
def badCommandBytes (bytes : List Byte) : Bool :=
  match bytes with
  | c :: _ :: _ :: _ :: _ => !(c = cmdRead || c = cmdWrite || c = cmdMaskedWrite || c = cmdRequest)
  | _ => true

/-- The bytes are a REQUEST whose address names no request: not 0x0F0001 to 0x0F000C (R161, R175). -/
def unknownRequestBytes (bytes : List Byte) : Bool :=
  match bytes with
  | c :: a2 :: a1 :: a0 :: _ =>
    c = cmdRequest && !(decide (0x0F0001 ≤ beValue [a2, a1, a0]) && decide (beValue [a2, a1, a0] ≤ 0x0F000C))
  | _ => false

/-! ## The control map (R175) -/

/-- The status views from 0x020000 on, in the order of R175. -/
inductive View where
  | relay | lane | slot | pacing | scan | overlay | memPort | hold | pin | commitReport | counters
deriving DecidableEq, Repr, Inhabited

inductive Region where
  | eventView | modeWord | pendingInput | pendingPanel | overlayList | overlayMemory
  | view (v : View)
  | trap (p : Port)
  | pinRegion | recordView | captureWindow
deriving DecidableEq, Repr, Inhabited

def viewOfIndex : Nat → View
  | 0 => .relay
  | 1 => .lane
  | 2 => .slot
  | 3 => .pacing
  | 4 => .scan
  | 5 => .overlay
  | 6 => .memPort
  | 7 => .hold
  | 8 => .pin
  | 9 => .commitReport
  | _ => .counters

def Region.size : Region → Nat
  | .eventView => 256
  | .modeWord => 1
  | .pendingInput => 64
  | .pendingPanel => 64
  | .overlayList => 512
  | .overlayMemory => 65536
  | .view _ => 4096
  | .trap _ => 64
  | .pinRegion => 64
  | .recordView => 36
  | .captureWindow => 8388608

/-- The region an address names, with the offset in it. -/
def regionOf (a : Nat) : Option (Region × Nat) :=
  if a < 0x000100 then some (.eventView, a)
  else if a = 0x001000 then some (.modeWord, 0)
  else if 0x002000 ≤ a ∧ a < 0x002040 then some (.pendingInput, a - 0x002000)
  else if 0x003000 ≤ a ∧ a < 0x003040 then some (.pendingPanel, a - 0x003000)
  else if 0x004000 ≤ a ∧ a < 0x004200 then some (.overlayList, a - 0x004000)
  else if 0x010000 ≤ a ∧ a < 0x020000 then some (.overlayMemory, a - 0x010000)
  else if 0x020000 ≤ a ∧ a < 0x02B000 then some (.view (viewOfIndex ((a - 0x020000) / 4096)), (a - 0x020000) % 4096)
  else if 0x02B000 ≤ a ∧ a < 0x02B040 then some (.trap .system, a - 0x02B000)
  else if 0x02B100 ≤ a ∧ a < 0x02B140 then some (.trap .link, a - 0x02B100)
  else if 0x030000 ≤ a ∧ a < 0x030040 then some (.pinRegion, a - 0x030000)
  else if 0x031000 ≤ a ∧ a < 0x031024 then some (.recordView, a - 0x031000)
  else if 0x800000 ≤ a ∧ a < 0x1000000 then some (.captureWindow, a - 0x800000)
  else none

/-! ## Access profiles (R162) -/

inductive Right where
  | panel | input | overlay | modeFields | pin | records | readAll | relayReset | events
deriving DecidableEq, Repr, Inhabited

/-- The relay mode word's bits that hold fields the port owns (R162, R176). -/
def ownedMask (profile : Fin 4) (p : Port) : Byte :=
  match profile, p with
  | 0, .system => 0x0F
  | 0, .link => 0x70
  | 1, .system => 0x7F
  | 1, .link => 0x00
  | 2, .system => 0x0F
  | 2, .link => 0x70
  | 3, .system => 0x7F
  | 3, .link => 0x00

/-- The rights of each port under each profile. -/
def hasRight (profile : Fin 4) (p : Port) (r : Right) : Bool :=
  match profile, p, r with
  | _, _, .events => true
  | 3, .link, _ => false
  | 3, .system, _ => true
  | _, _, .modeFields => decide (ownedMask profile p ≠ 0)
  | _, .system, .panel => true
  | _, .link, .panel => false
  | 1, .system, .input => true
  | _, .system, .input => false
  | _, .link, .input => true
  | 2, .system, .overlay => false
  | 2, .link, .overlay => true
  | _, .system, .overlay => true
  | _, .link, .overlay => false
  | _, _, .pin => true
  | 1, .link, .records => false
  | _, _, .records => true
  | _, _, .readAll => true
  | _, .system, .relayReset => true
  | _, .link, .relayReset => false

def State.hasRight (s : State) (p : Port) (r : Right) : Bool := Machine.hasRight s.peu.profile p r

/-- The right that lets a port write a region, if any right does (R175). -/
def Region.writeRight : Region → Option Right
  | .eventView => some .events
  | .modeWord => some .modeFields
  | .pendingInput => some .input
  | .pendingPanel => some .panel
  | .overlayList => some .overlay
  | .overlayMemory => some .overlay
  | .view _ => none
  | .trap _ => none
  | .pinRegion => some .pin
  | .recordView => none
  | .captureWindow => none

/-- The rights, any of which lets a port read a region (R162, R175). -/
def Region.readRights : Region → List Right
  | .eventView => [.events]
  | .modeWord => [.readAll, .modeFields]
  | .pendingInput => [.readAll, .input]
  | .pendingPanel => [.readAll, .panel]
  | .overlayList => [.readAll, .overlay]
  | .overlayMemory => [.readAll, .overlay]
  | .view _ => [.readAll]
  | .trap _ => [.readAll]
  | .pinRegion => [.pin]
  | .recordView => [.records]
  | .captureWindow => [.pin]

def State.mayRead (s : State) (p : Port) (r : Region) : Bool := r.readRights.any (s.hasRight p)

/-- The bytes of a region a write reaches are all writable by a port with the region's right: the enables only in
the event view (R171), the expiry setting only in the pin region (R144). -/
def Region.writableBytes (r : Region) (off n : Nat) : Bool :=
  match r with
  | .eventView => decide (n = 0) || (decide (6 ≤ off) && decide (off + n ≤ 8))
  | .pinRegion => decide (off + n ≤ 1) || decide (n = 0)
  | _ => true

def State.mayWrite (s : State) (p : Port) (r : Region) (off n : Nat) : Bool :=
  match r.writeRight with
  | none => false
  | some right => s.hasRight p right && r.writableBytes off n

end Sys2Proof.Machine
end

