-- ==== Sys2Proof/Machine/Flags.lean ====
section
/-! DEFINITION. Causes, cause sets, the interrupt line and the identification (chapter 12). -/
namespace Sys2Proof.Machine

/-- The cause's number, which is also its priority (R165). -/
def Cause.number : Cause → Nat
  | .sliceTableUncorrectable => 1
  | .lockLost => 2
  | .laneFault => 3
  | .formatRefused => 4
  | .panelLate => 5
  | .pinExpired => 6
  | .accessDenied => 7
  | .lateSlices => 8
  | .contractApplied => 9
  | .relayStateChanged => 10
  | .overlayApplied => 11
  | .recordsWaiting => 12

/-- The causes in order of priority, the highest first (R165). -/
def allCauses : List Cause :=
  [.sliceTableUncorrectable, .lockLost, .laneFault, .formatRefused, .panelLate, .pinExpired,
   .accessDenied, .lateSlices, .contractApplied, .relayStateChanged, .overlayApplied, .recordsWaiting]

/-- The cause a data byte names, if it names one (R161, R169). -/
def causeOfNumber (n : Nat) : Option Cause := allCauses.find? fun c => decide (c.number = n)

/-- The cause's place in a cause set. -/
def Cause.index : Cause → Fin 12
  | .sliceTableUncorrectable => 0
  | .lockLost => 1
  | .laneFault => 2
  | .formatRefused => 3
  | .panelLate => 4
  | .pinExpired => 5
  | .accessDenied => 6
  | .lateSlices => 7
  | .contractApplied => 8
  | .relayStateChanged => 9
  | .overlayApplied => 10
  | .recordsWaiting => 11

/-! ## Details (R179): the reason in the high byte, the lane or port in the low byte -/

def laneCode : Lane → Nat
  | .a => 1
  | .b => 2
  | .c => 3

def portCode : Port → Nat
  | .system => 1
  | .link => 2

/-- A detail from its reason and its lane or port. -/
def causeDetail (reason who : Nat) : BitVec 16 := BitVec.ofNat 16 (reason * 256 + who)

/-- The detail TEST (R170, R179). -/
def testDetail : BitVec 16 := 0xFFFF

/-! ## Cause sets (R166) -/

def PortCtl.flags (p : PortCtl) (c : Cause) : CauseFlags := p.causes[c.index]

/-- One raising entered into one set (R166). -/
def CauseFlags.enter (f : CauseFlags) (detail : BitVec 16) : CauseFlags :=
  if f.pending then { f with repeated := true } else { pending := true, repeated := false, detail := detail }

/-- A raising of `c` entered into one port's set. -/
def PortCtl.enter (p : PortCtl) (c : Cause) (detail : BitVec 16) : PortCtl :=
  { p with causes := p.causes.set c.index ((p.flags c).enter detail) }

def State.port (s : State) (p : Port) : PortCtl := s.peu.ports.get p

def State.setPort (s : State) (p : Port) (x : PortCtl) : State := { s with peu.ports := s.peu.ports.set p x }

/-- A block raises a cause: it is entered into the sets of both ports (R165, R166). -/
def State.raise (s : State) (c : Cause) (detail : BitVec 16) : State :=
  { s with peu.ports := s.peu.ports.map fun p => p.enter c detail }

/-! ## Line and identification (R167, R168) -/

def PortCtl.enabled (p : PortCtl) (c : Cause) : Bool := p.enables.getLsbD (c.number - 1)

/-- The cause is both pending and enabled. -/
def PortCtl.signalled (p : PortCtl) (c : Cause) : Bool := (p.flags c).pending && p.enabled c

/-- The interrupt line is asserted (R167). -/
def PortCtl.line (p : PortCtl) : Bool := allCauses.any p.signalled

/-- The pending and enabled cause of highest priority, which a free identification names (R168). -/
def PortCtl.urgent (p : PortCtl) : Option Cause := allCauses.find? p.signalled

/-- The cause the identification names: the frozen one, or the most urgent (R168). -/
def PortCtl.named (p : PortCtl) : Option Cause :=
  match p.frozen with
  | some c => some c
  | none => p.urgent

/-- A READ of the identification freezes it on the cause it names, if it names one (R168). -/
def PortCtl.freeze (p : PortCtl) : PortCtl := { p with frozen := p.named }

/-- ACK_CAUSE in one port's set (R169): flags and detail cleared, the trap emptied for ACCESS_DENIED, a freeze on
this cause released. -/
def PortCtl.ack (p : PortCtl) (c : Cause) : PortCtl :=
  { p with
    causes := p.causes.set c.index { pending := false, repeated := false, detail := 0 }
    trap := if c = .accessDenied then none else p.trap
    frozen := if p.frozen = some c then none else p.frozen }

end Sys2Proof.Machine
end

