-- ==== Sys2Proof/Machine/RecordUnit.lean ====
section
/-! DEFINITION. The record unit: frame records, the ring and its readers, the statistics counters (chapter 10). -/
namespace Sys2Proof.Machine

/-! ## Statistics (R156) -/

def State.stat (s : State) (f : Stats → Stats) : State := { s with records.stats := f s.records.stats }

def bump (n : Nat) : Nat := satInc max32 n

def bumpLane (v : PerLane Nat) (l : Lane) : PerLane Nat := v.set l (bump (v.get l))

/-! ## Frame records (R152) -/

/-- What the scan report and the pacing engine add to a record appended at a NEW scan's close. -/
structure NewScanPart where
  openTime : Stamp
  lag : Stamp
  late : Nat
  damaged : Nat
  substituted : Bool
deriving DecidableEq, Repr

/-- A record of the frame in slot k (R152); the ring gives sequence number and repeats at the append. -/
def frameRecord (k : Fin 5) (r : Slot) (superseded : Bool) (scan : Option NewScanPart) : FrameRecord :=
  { sequence := 0
    frameNumber := r.frameNumber
    slot := k
    mode := r.mode
    short := decide (r.state = .short)
    superseded := superseded
    concealed := decide (r.concealedLines ≠ 0)
    substituted := (scan.map (·.substituted)).getD false
    arrival := r.arrival
    delivery := if r.state = .complete then r.delivery else none
    lead := r.lead
    presented := scan.map fun p => (p.openTime, p.lag)
    late := (scan.map (·.late)).getD 0
    damaged := (scan.map (·.damaged)).getD 0
    concealedLines := r.concealedLines
    repeats := 0 }

/-! ## Appending (R153, R155) -/

/-- One port's counts at an append; `full` says the ring held 32 before it. -/
def Reader.onAppend (x : Reader) (full : Bool) : Reader :=
  if full && decide (x.unread = 32) then { x with lost := satInc 255 x.lost }
  else { x with unread := x.unread + 1 }

/-- The record joins the ring with the next sequence number and the repeat tally; the oldest leaves a full ring. -/
def Records.push (u : Records) (x : FrameRecord) : Records :=
  let full := decide (32 ≤ u.ring.length)
  { u with
    ring := (if full then u.ring.drop 1 else u.ring) ++ [{ x with sequence := u.nextSequence, repeats := u.repeatTally }]
    nextSequence := u.nextSequence + 1
    readers := u.readers.map fun y => y.onAppend full
    repeatTally := 0 }

/-- The ports whose unread count an append takes from 15 to 16 (R155). -/
def portsReaching16 (u : Records) : List Port :=
  [Port.system, Port.link].filter fun p => decide ((u.readers.get p).unread = 15)

/-- The detail of RECORDS_WAITING names the port (R165). -/
def State.raiseRecordsWaiting (s : State) (p : Port) : State := s.raise .recordsWaiting (causeDetail 0 (portCode p))

/-- Append a record for the frame in slot k and set the slot's recorded flag (R153). The ports that reach 16 at this
append raise RECORDS_WAITING in an order the part chooses; where two appends of one event each bring a port to 16, the
raisings are entered in the order of the appends (DESIGN CHOICE, assumption log 42). -/
def State.appendRecord (s : State) (k : Fin 5) (superseded : Bool) (scan : Option NewScanPart) : State :=
  let s1 := { s with records := s.records.push (frameRecord k (s.slot k) superseded scan) }
  let s2 := s1.modSlot k fun r => { r with recorded := true }
  s2.eachFree (portsReaching16 s.records) State.raiseRecordsWaiting

/-- Append a record for a slot that is being freed, if it has none yet (R60, R69). -/
def State.recordIfUnrecorded (s : State) (k : Fin 5) : State :=
  if (s.slot k).recorded then s else s.appendRecord k false none

/-! ## Reading (R154) -/

/-- NEXT_RECORD on one port's reader. -/
def Reader.next (x : Reader) (ring : List FrameRecord) : Reader :=
  if x.unread = 0 then { x with view := { record := none, lost := x.lost, unread := 0 } }
  else
    { unread := x.unread - 1
      lost := 0
      view := { record := ring[ring.length - x.unread]?, lost := x.lost, unread := x.unread - 1 } }

end Sys2Proof.Machine
end

