-- ==== Sys2Proof/Machine/FrameStore.lean ====
section
/-! DEFINITION. The frame store: reading and updating slice entries, the life of a frame, allocation and reclaim,
the repeat source (chapter 3). -/
namespace Sys2Proof.Machine

/-! ## The repeat source (R64, R65) -/

def State.isComplete (s : State) (k : Fin 5) : Bool := decide ((s.slot k).state = .complete)

/-- The COMPLETE slot with the youngest A among slots 0 to U − 1 (R65, R145), of equals the lowest-numbered (assumption
log 43). -/
def State.newestComplete (s : State) : Option (Fin 5) := s.youngest (s.usableSlots.filter s.isComplete)

/-- The proper repeat source (R65). -/
def State.properRepeat (s : State) : Option (Fin 5) :=
  match s.pacing.presented with
  | some k => if s.isComplete k then some k else s.newestComplete
  | none => s.newestComplete

/-- Re-evaluate the repeat source while no scan is in progress. -/
def State.reevalRepeatFull (s : State) : State := { s with pacing.repeatSource := s.properRepeat }

/-- Re-evaluate it while a scan with this scanned slot is in progress. -/
def State.reevalRepeatDuring (s : State) (scanned : Option (Fin 5)) : State :=
  if s.pacing.repeatSource = none ∨ (s.properRepeat ≠ none ∧ s.properRepeat = scanned) then s.reevalRepeatFull
  else s

/-- Re-evaluate it as R65 states for the scan in progress, if there is one. -/
def State.reevalRepeat (s : State) : State :=
  match s.sco.scan with
  | some c => s.reevalRepeatDuring c.slot
  | none => s.reevalRepeatFull

/-! ## Completion (R55) -/

/-- A DRAINING slot becomes COMPLETE: stamp and D set, the reference D taken (R77), the repeat source re-evaluated. -/
def State.completeSlot (s : State) (k : Fin 5) : State :=
  let d := min (s.age k) 1000000
  let s1 := s.modSlot k fun r => { r with state := .complete, completion := some s.relayTime, delivery := some d }
  let s2 := if (s.slot k).predatesReference then s1 else { s1 with pacing.referenceD := some d }
  s2.reevalRepeat

/-- Complete the slot if it is DRAINING and every slice has resolved. -/
def State.completeIfResolved (s : State) (k : Fin 5) : State :=
  if (s.slot k).state = .draining && (s.slot k).resolved then s.completeSlot k else s

/-! ## Reading an entry (R52, R53) -/

/-- The entry rewritten after an error that cannot be corrected: DAMAGED, nothing written, good check bits. -/
def SliceEntry.rewritten : SliceEntry := { state := .damaged, written := 0, discarded := false, check := .good }

/-- Every read of an entry checks it: one bit in error is corrected and counted; more make the entry DAMAGED,
raise the cause, take it out of the ready count, and may complete a DRAINING slot. -/
def State.checkEntry (s : State) (k : Fin 5) (j : Nat) : State :=
  match ((s.slot k).entry j).check with
  | .good => s
  | .oneBit =>
    (s.modSlot k fun r => r.setEntry j { r.entry j with check := .good }).stat
      fun c => { c with correctable := bump c.correctable }
  | .uncorrectable =>
    ((s.modSlot k fun r => (r.unmarkReady j).setEntry j SliceEntry.rewritten).raise
      .sliceTableUncorrectable 0).completeIfResolved k

/-! ## Lines (R48 to R50) -/

/-- A slice entry made DAMAGED because a line of its slice is lost. -/
def Slot.damage (r : Slot) (j : Nat) : Slot :=
  (r.unmarkReady j).setEntry j { r.entry j with state := .damaged, discarded := true }

/-- A completed line reported to the frame store before it joins the queue or is discarded (R48). -/
def State.lineCompleted (s : State) (k : Fin 5) (y : Nat) (concealed joins : Bool) : State :=
  let s1 := s.modSlot k fun r =>
    { r with linesReceived := y + 1, concealedLines := if concealed then r.concealedLines + 1 else r.concealedLines }
  let j := y / (s.slot k).sliceHeight
  let s2 := s1.checkEntry k j
  if joins && decide (((s2.slot k).entry j).state = .empty) then
    s2.modSlot k fun r => r.setEntry j { r.entry j with state := .filling }
  else s2

/-- A completed line discarded by a full staging queue: its slice is DAMAGED at once (R49). -/
def State.lineDiscarded (s : State) (k : Fin 5) (y : Nat) : State :=
  let j := y / (s.slot k).sliceHeight
  (s.checkEntry k j).modSlot k fun r => r.damage j

/-- One more line written into slice j; the entry becomes READY when it has them all and none was discarded. -/
def Slot.countWritten (r : Slot) (j : Nat) : Slot :=
  let x := r.entry j
  let r1 := r.setEntry j { x with written := x.written + 1 }
  if x.state = .filling && decide (x.written + 1 = r.capacity j) && !x.discarded then
    (r1.setEntry j { x with written := x.written + 1, state := .ready }).markReady j
  else r1

/-- A staged line has been written: counted against its slice if the slot still holds its frame (R50). -/
def State.lineWritten (s : State) (l : StagedLine) : State :=
  if s.holdsFrame l.slot l.arrival then
    let j := l.line / (s.slot l.slot).sliceHeight
    ((s.checkEntry l.slot j).modSlot l.slot fun r => r.countWritten j).completeIfResolved l.slot
  else s

/-! ## End and cut (R54, R56) -/

/-- The frame being received has ended whole (R54). -/
def State.frameEnded (s : State) (k : Fin 5) : State :=
  (s.modSlot k fun r => { r with state := .draining }).completeIfResolved k

/-- The slices that can no longer receive all their lines after a cut at line L (R56). -/
def Slot.unreachable (r : Slot) (linesDone : Nat) : List Nat :=
  (List.range r.slices).filter fun j => decide (linesDone < j * r.sliceHeight + r.capacity j)

/-- One slice damaged by a cut. -/
def State.cutSlice (k : Fin 5) (s : State) (j : Nat) : State := (s.checkEntry k j).modSlot k fun r => r.damage j

/-- A cut: the slot becomes SHORT and its unreachable slices DAMAGED. -/
def State.cutSlot (s : State) (k : Fin 5) (linesDone : Nat) : State :=
  let s1 := s.modSlot k fun r => { r with state := .short, linesReceived := linesDone }
  ((s1.slot k).unreachable linesDone).foldl (State.cutSlice k) s1

/-! ## Freeing, reclaim, allocation (R58 to R60) -/

/-- The slot becomes FREE with its record and entries cleared; the presented slot goes with it (R60, R64, R69). -/
def State.freeSlot (s : State) (k : Fin 5) : State :=
  let s1 := s.modSlot k fun _ => Slot.reset
  let s2 := if s.pacing.presented = some k then { s1 with pacing.presented := none } else s1
  s2.reevalRepeat

/-- A slot that reclaim may not choose (R59). -/
def State.blocked (s : State) (k : Fin 5) : Bool :=
  (s.slot k).underScan ||
  decide ((s.sco.scan.bind (·.fallback)) = some k) ||
  decide (s.pacing.repeatSource = some k) ||
  (s.slot k).pinHolders.system || (s.slot k).pinHolders.link

/-- The slots reclaim chooses among (R59). -/
def State.eligible (s : State) : List (Fin 5) :=
  s.usableSlots.filter fun k => decide ((s.slot k).state ≠ .free) && !s.blocked k

/-- Reclaim's choice: the oldest superseded slot, otherwise the oldest (R59). -/
def State.reclaimChoice (s : State) : Option (Fin 5) :=
  match s.oldest (s.eligible.filter fun k => (s.slot k).superseded) with
  | some k => some k
  | none => s.oldest s.eligible

/-- The lowest-numbered FREE slot among slots 0 to U − 1 (R58). -/
def State.lowestFree (s : State) : Option (Fin 5) :=
  s.usableSlots.find? fun k => decide ((s.slot k).state = .free)

/-- A slot for a new frame: FREE, or reclaimed and freed with its record appended if it has none. -/
def State.takeSlot (s : State) : Option (Fin 5 × State) :=
  match s.lowestFree with
  | some k => some (k, s)
  | none =>
    match s.reclaimChoice with
    | some k => some (k, (s.recordIfUnrecorded k).freeSlot k)
    | none => none

/-! ## Supersession (R63, R80) -/

/-- A frame is unscanned (R80). -/
def State.unscanned (s : State) (k : Fin 5) : Bool :=
  decide (k.val < s.store.usable) && decide ((s.slot k).state ≠ .free) && decide ((s.slot k).newCount = 0) &&
    !(s.slot k).superseded

/-- One older frame is superseded: record appended, flag set, counted (R63). -/
def State.supersede (s : State) (k : Fin 5) : State :=
  ((s.appendRecord k true none).modSlot k fun r => { r with superseded := true }).stat
    fun c => { c with supersededFrames := bump c.supersededFrames }

/-! ## Pins (R144 to R148) -/

def State.setPinHolder (s : State) (k : Fin 5) (p : Port) (held : Bool) : State :=
  s.modSlot k fun r => { r with pinHolders := r.pinHolders.set p held }

/-- The port's pin ends: its record is emptied and the slot's holder removed. -/
def State.dropPin (s : State) (p : Port) : State :=
  match s.store.pins.get p with
  | some x =>
    let s1 := s.setPinHolder x.slot p false
    { s1 with store.pins := s1.store.pins.set p none }
  | none => s

/-- PIN_EXPIRED with reason EXPIRY (1) or RELAYOUT (2) and the port (R165, R179). -/
def State.expirePin (reason : Nat) (s : State) (p : Port) : State :=
  (s.dropPin p).raise .pinExpired (causeDetail reason (portCode p))

/-- One pin counted down by an accepted FS (R146). -/
def countDownPin (x : Option Pin) : Option Pin := x.map fun y => { y with remaining := y.remaining - 1 }

/-- The ports that hold a pin for which `f` holds. -/
def State.pinPorts (s : State) (f : Pin → Bool) : List Port :=
  [Port.system, Port.link].filter fun p => ((s.store.pins.get p).map f).getD false

/-- At an accepted FS every held pin is counted down, and one reaching 0 expires (R146). -/
def State.countDownPins (s : State) : State :=
  let s1 := { s with store.pins := s.store.pins.map countDownPin }
  s1.eachFree (s1.pinPorts fun x => decide (x.remaining = 0)) (State.expirePin 1)

/-- The number of pins held (R144). -/
def State.pinsHeld (s : State) : Nat := (s.pinPorts fun _ => true).length

/-- U − 3, and 0 before the first panel contract (R151). -/
def State.pinLimit (s : State) : Nat := s.store.usable - 3

end Sys2Proof.Machine
end

