-- ==== Sys2Proof/Machine/RelayControl.lean ====
section
/-! DEFINITION. The relay controller: relay state, grace, contract checks, geometry, frame mode and placement
(chapter 1), with the planned-repeat list that the relay state empties (R91). -/
namespace Sys2Proof.Machine

/-- The planned-repeat list is emptied and the waiting repeat cleared (R91). -/
def State.clearPlanned (s : State) : State :=
  { s with pacing.planned := [], pacing.planM := 0, pacing.planR := 0, pacing.waitingRepeat := false }

/-! ## Relay state (R1 to R4, R123) -/

def State.sourceAbsent (s : State) : Bool :=
  decide (s.lra.lanes.a.state = .quiet) && decide (s.lra.lanes.b.state = .quiet) &&
    decide (s.lra.lanes.c.state = .quiet)

/-- The first condition of R1 that holds, in the order of R2. -/
def State.borderCondition (s : State) : BorderReason :=
  if s.lra.testOn then .laneTest
  else if s.sourceAbsent then .sourceAbsent
  else if s.lra.aligner = .search then .noLock
  else if s.relay.refused then .format
  else .none

/-- The state R1 gives. -/
def State.properRelayState (s : State) : RelayState :=
  if s.relay.panel = none then .idle
  else if s.borderCondition = .none then .relaying
  else .border

/-- The border reason (R2). -/
def State.properReason (s : State) : BorderReason :=
  if s.properRelayState = .border then s.borderCondition else .none

/-- The grace end lies ahead of the relay time (R4). -/
def Deadline.ahead (d : Deadline) (now : Stamp) : Bool := decide (since d.time now < 2 ^ 31)

/-- Grace as the relay goes from RELAYING to BORDER (R4). -/
def State.beginGrace (s : State) : State :=
  match s.relay.lastAccepted with
  | some a =>
    let d : Deadline := { origin := a, span := s.contract.grace }
    if s.contract.grace ≠ 0 ∧ d.ahead s.relayTime then
      { s with relay.graceFlag := true, relay.graceEnd := some d }
    else s
  | none => s

/-- What a change of relay state brings besides the cause: the hold reference stamp (R123), grace (R4), the
planned repeats (R91). A refused FS that takes the relay from RELAYING to BORDER sets the stamp as every such entry does
(DESIGN CHOICE, assumption log 39: R123 also says that a refused FS leaves the stamp as it is). -/
def State.relayChanged (s : State) (old new : RelayState) : State :=
  let s1 := if old = .idle ∨ (old = .relaying ∧ new = .border) then
    { s with pacing.holdReference := some s.relayTime } else s
  let s2 := if old = .relaying ∧ new = .border then s1.beginGrace else s1
  let s3 := if new = .border ∧ s2.relay.graceFlag = false then s2.clearPlanned else s2
  if new = .relaying then { s3 with relay.graceFlag := false, relay.graceEnd := none } else s3

/-- The relay controller re-evaluates the relay state and the border reason (R1, R2). -/
def State.reevaluate (s : State) : State :=
  let new := s.properRelayState
  let s1 := { s with relay.state := new, relay.reason := s.properReason }
  if new = s.relay.state then s1
  else (s1.relayChanged s.relay.state new).raise .relayStateChanged 0

/-! ## Contract checks (R6, R9) -/

/-- No field of the input copy holds a reserved encoding (R6, R181). -/
def InputContract.valid (c : InputContract) : Bool :=
  (decide (c.sliceHeight = 8) || decide (c.sliceHeight = 16) || decide (c.sliceHeight = 32)) &&
    decide (c.depths ≠ 0)

/-- Every field lies in its range of R8; Tmax, S and the idle interval against the same snapshot's Tmin (R9). -/
def PanelContract.valid (c : PanelContract) : Bool :=
  decide (64 ≤ c.pw) && decide (c.pw ≤ 3840) && decide (64 ≤ c.ph) && decide (c.ph ≤ 2160) &&
  decide (2000 ≤ c.tmin) && decide (c.tmin ≤ 50000) && decide (c.tmin ≤ c.tmax) && decide (c.tmax ≤ 100000) &&
  decide (1000 ≤ c.span) && decide (c.span ≤ c.tmin) && decide (c.guardTime ≤ 1000) &&
  decide (1 ≤ c.lf) && decide (c.lf ≤ 16) && decide (c.tmin ≤ c.idle) && decide (c.idle ≤ c.tmax) &&
  decide (c.grace ≤ 1000000) && decide (1 ≤ c.holdDelay) && decide (c.holdDelay ≤ 1000000) &&
  decide (c.x ≤ 20000) && decide (1 ≤ c.e) && decide (c.e ≤ 1000) &&
  (decide (c.memory = 128) || decide (c.memory = 256) || decide (c.memory = 512))

/-! ## Slot geometry (R13) -/

/-- ceil(4.5 × PW / 256) × 256. -/
def lineBytesFor (pw : Nat) : Nat := ceilDiv (9 * pw) 512 * 256

def slotBytesFor (c : PanelContract) : Nat := c.ph * lineBytesFor c.pw

/-- U. -/
def usableFor (c : PanelContract) : Nat := min 5 (c.memory * 1048576 / slotBytesFor c)

/-! ## Frame mode and placement (R14, R15) -/

def frameModeFor (policy : LowlagPolicy) (lowlag : Bool) : FrameMode :=
  match policy with
  | .off => .whole
  | .on => .pass
  | _ => if lowlag then .pass else .whole

/-- s, x0 and y0 of a source of w by h pixels. -/
def placementFor (scalePermit : Bool) (pw ph w h : Nat) : Nat × Nat × Nat :=
  let sc := if scalePermit && decide (2 * w ≤ pw) && decide (2 * h ≤ ph) then 2 else 1
  (sc, (pw - sc * w) / 2, (ph - sc * h) / 2)

/-- The chosen mode becomes the last frame mode; a change from another mode is raised (R14). -/
def State.takeMode (s : State) (m : FrameMode) : State :=
  let s1 := { s with relay.lastMode := some m }
  if s.relay.lastMode ≠ none ∧ s.relay.lastMode ≠ some m then s1.raise .relayStateChanged 0 else s1

/-! ## Memory wake (R131) -/

/-- The memory leaves SELF_REFRESH: WAKING with its exit deadline from now, span E. -/
def State.wakeMemory (s : State) : State :=
  if s.mpt.power = .selfRefresh then
    { s with
      mpt.power := .waking
      mpt.exitDeadline := some { origin := s.relayTime, span := s.contract.e } }
  else s

end Sys2Proof.Machine
end

