-- ==== Sys2Proof/Machine/Aligner.lean ====
section
/-! DEFINITION. The aligner: entries into SEARCH, lane loss, the input apply at its boundary, counts, the search run,
the rejoin run and the lane test (sections 1.3, 2.1 to 2.3, 2.8). -/
namespace Sys2Proof.Machine

def State.lane (s : State) (l : Lane) : LaneRec := s.lra.lanes.get l

def State.modLane (s : State) (l : Lane) (f : LaneRec → LaneRec) : State :=
  { s with lra.lanes := s.lra.lanes.set l (f (s.lra.lanes.get l)) }

def State.mapLanes (s : State) (f : LaneRec → LaneRec) : State :=
  { s with lra.lanes := s.lra.lanes.map f }

def allLanes : List Lane := [.a, .b, .c]

/-- LANE_FAULT: reason FAULTED is 1, QUIET is 2 (R179). -/
def State.raiseLaneFault (reason : Nat) (s : State) (l : Lane) : State :=
  s.raise .laneFault (causeDetail reason (laneCode l))

/-- A lane enters FAULTED: its fault is counted and LANE_FAULT raised. -/
def State.laneFaulted (s : State) (l : Lane) : State :=
  ((s.modLane l fun x => { x with state := .faulted }).stat
    fun c => { c with faults := bumpLane c.faults l }).raiseLaneFault 1 l

/-! ## The input apply (R7) -/

/-- A count under a new limit. -/
def adjustCount (limit count : Nat) : Nat := if limit = 0 then 0 else min count limit

/-- A count that the new limit sets equal to itself. -/
def reachesLimit (limit count : Nat) : Bool := decide (limit ≠ 0) && decide (limit ≤ count)

def LaneRec.adjust (c : InputContract) (x : LaneRec) : LaneRec :=
  { x with missCount := adjustCount c.missLimit x.missCount, skewCount := adjustCount c.skewLimit x.skewCount }

/-- An ACTIVE lane whose count the new limits bring to a limit. -/
def LaneRec.faultsUnder (c : InputContract) (x : LaneRec) : Bool :=
  decide (x.state = .active) && (reachesLimit c.missLimit x.missCount || reachesLimit c.skewLimit x.skewCount)

/-- The waiting input apply takes effect: installed, counts adjusted, ACTIVE lanes at a limit FAULTED. The second
result is the lanes lost, to which the aligner then reacts. -/
def State.installInput (s : State) : State × List Lane :=
  match s.relay.waitingInput with
  | none => (s, [])
  | some c =>
    let lost := allLanes.filter fun l => (s.lane l).faultsUnder c
    let s1 := { s with relay.input := c, relay.waitingInput := none }
    let s2 := (s1.mapLanes (LaneRec.adjust c)).raise .contractApplied (causeDetail 1 0)
    (s2.eachFree lost State.laneFaulted, lost)

/-! ## The frame being received -/

/-- The frame being received, if one is (R34). -/
def State.receiving (s : State) : Option RxFrame :=
  if s.lra.assembly = .receiving then s.lra.frame else none

/-- The frame being received is cut and the line being assembled dropped (R25, R31, R56). The assembly goes to GAP. -/
def State.cutReceived (s : State) : State :=
  match s.receiving with
  | some f =>
    { s.cutSlot f.slot s.lra.linesDone with lra.assembly := .gap, lra.frame := none, lra.lineBuffer := [] }
  | none => { s with lra.assembly := .gap, lra.frame := none, lra.lineBuffer := [] }

/-! ## Entry into SEARCH (R25) -/

/-- An ACTIVE lane keeps its state with counts cleared; the others keep state and counts (R25). -/
def LaneRec.keepOnSearch (x : LaneRec) : LaneRec :=
  if x.state = .active then { x with missCount := 0, skewCount := 0 } else x

/-- Every lane becomes ACTIVE with counts cleared (R27, R40, R43). -/
def LaneRec.activate (x : LaneRec) : LaneRec := { x with state := .active, missCount := 0, skewCount := 0 }

def LaneRec.clearRuns (x : LaneRec) : LaneRec := { x with mark := false, rejoinRun := 0 }

/-- The aligner enters SEARCH. `onLane` is what the entry does to each lane's state and counts. A frame cut here is the
boundary of a waiting input apply, whose limits find every ACTIVE lane's counts at 0 (R7, assumption log 29). -/
def State.enterSearch (onLane : LaneRec → LaneRec) (s : State) : State :=
  let wasReceiving := s.receiving.isSome
  let s1 := s.cutReceived.mapLanes fun x => (onLane x).clearRuns
  let s2 := { s1 with lra.aligner := .search, lra.searchRun := 0, pacing.prevArrival := none }
  let s3 := if wasReceiving then s2.installInput.1 else s2
  s3.reevaluate

/-- Loss of lock: SEARCH with LOCK_LOST raised (R17, R24). -/
def State.loseLock (s : State) : State := (s.enterSearch LaneRec.keepOnSearch).raise .lockLost 0

/-- The aligner reacts to a lane that has left ACTIVE (R24). A LOCKED aligner that goes to DEGRADED here keeps its frame
assembly: a frame being received continues, as R24 says, and a discarded frame goes on being discarded, although R34 has
the assembly in GAP on each entry into DEGRADED (DESIGN CHOICE, assumption log 41). -/
def State.laneLost (s : State) (_l : Lane) : State :=
  match s.lra.aligner with
  | .locked => if s.concealPermit then { s with lra.aligner := .degraded } else s.loseLock
  | .degraded => s.loseLock
  | .search => s

/-- The waiting input apply takes effect at its boundary, and the aligner reacts to each lane lost (R7). -/
def State.applyInputNow (s : State) : State :=
  let r := s.installInput
  r.2.foldl State.laneLost r.1

/-- A frame being received is cut, and the cut is the boundary of a waiting input apply (R7, R12, R31). With no frame
being received nothing happens; a discarded frame goes on (R34). -/
def State.cutAtBoundary (s : State) : State := if s.receiving.isSome then s.cutReceived.applyInputNow else s

/-! ## Lock (R23, R72) -/

/-- Every stored frame is marked as predating the reference D (R72, R74). -/
def State.markPredating (s : State) : State :=
  { s with store.slots := s.store.slots.map fun r =>
      if r.state = .free then r else { r with predatesReference := true } }

/-- What a lock clears in the pacing engine (R72). -/
def State.pacingLock (s : State) : State :=
  { s.markPredating with
    pacing.intervals := [], pacing.penalty := 0, pacing.clean := 0, pacing.referenceD := none }

/-- A lane at the end of a search run that locks: admitted if its mark is set. -/
def LaneRec.lockOutcome (x : LaneRec) : LaneRec :=
  if x.mark then { x with state := .active, missCount := 0, skewCount := 0 } else x

/-- In a lock on two lanes the third becomes FAULTED unless it is QUIET (R23). -/
def State.lockThird (s : State) (l : Lane) : State :=
  if (s.lane l).mark then s
  else match (s.lane l).state with
    | .active => s.laneFaulted l
    | .faulted => s
    | .quiet => s

/-- The aligner locks on the lanes whose marks are set (R23). -/
def State.lock (onto : AlignerState) (s : State) : State :=
  let s1 := if onto = .degraded then allLanes.foldl State.lockThird s else s
  let s2 := (s1.mapLanes fun x => x.lockOutcome.clearRuns).pacingLock
  State.reevaluate { s2 with
    lra.aligner := onto, lra.searchRun := 0, lra.assembly := .gap, lra.frame := none, lra.lineBuffer := [] }

/-- The search run restarts at 0 with marks cleared (R22, R23). -/
def State.restartSearch (s : State) : State :=
  { s with lra.searchRun := 0, lra.lanes := s.lra.lanes.map fun x => { x with mark := false } }

def State.markCount (s : State) : Nat := (allLanes.filter fun l => (s.lane l).mark).length

/-- The end of a search run (R23). -/
def State.searchRunEnd (s : State) : State :=
  if s.markCount = 3 then s.lock .locked
  else if s.markCount = 2 ∧ s.concealPermit then s.lock .degraded
  else s.restartSearch

/-- A lane's outcome in SEARCH: a QUIET lane whose line is static delivers nothing (R22). -/
def LaneRec.searchOutcome (x : LaneRec) (o : LaneOutcome) : Bool :=
  decide (o = .inWindow) && (decide (x.state ≠ .quiet) || x.activitySeen)

/-- One lane's mark after a qualifying group; the first group of a run sets the marks afresh. -/
def LaneRec.markGroup (first : Bool) (x : LaneRec) (o : LaneOutcome) : LaneRec :=
  { x with mark := x.searchOutcome o && (first || x.mark) }

/-- The lanes in window in a group of SEARCH. -/
def State.lanesInWindow (s : State) (o : PerLane LaneOutcome) : Nat :=
  (allLanes.filter fun l => (s.lane l).searchOutcome (o.get l)).length

/-- A qualifying group: the run rises by one and the marks follow (R22). -/
def State.extendRun (s : State) (o : PerLane LaneOutcome) : State :=
  let first := decide (s.lra.searchRun = 0)
  { s with
    lra.searchRun := s.lra.searchRun + 1
    lra.lanes :=
      { a := s.lra.lanes.a.markGroup first o.a
        b := s.lra.lanes.b.markGroup first o.b
        c := s.lra.lanes.c.markGroup first o.c } }

/-- A group period in SEARCH (R22). -/
def State.searchGroup (s : State) (o : PerLane LaneOutcome) : State :=
  if s.lanesInWindow o < 2 then s.restartSearch
  else if s.lra.searchRun + 1 < 8 then s.extendRun o
  else (s.extendRun o).searchRunEnd

/-! ## Counts (R21) -/

/-- A count raised by one under its limit: held at 0 when the limit is 0, never above the limit. -/
def raiseCount (limit count : Nat) : Nat := if limit = 0 then 0 else min (count + 1) limit

/-- The counts of an ACTIVE lane after a group period. -/
def LaneRec.count (c : InputContract) (x : LaneRec) (o : LaneOutcome) : LaneRec :=
  match o with
  | .inWindow => { x with missCount := 0, skewCount := 0 }
  | .outOfWindow => { x with skewCount := raiseCount c.skewLimit x.skewCount }
  | .nothing => { x with missCount := raiseCount c.missLimit x.missCount }

/-- The increment brought a count to its nonzero limit. -/
def LaneRec.countFaults (c : InputContract) (x : LaneRec) (o : LaneOutcome) : Bool :=
  match o with
  | .inWindow => false
  | .outOfWindow => decide (c.skewLimit ≠ 0) && decide (c.skewLimit ≤ x.skewCount + 1)
  | .nothing => decide (c.missLimit ≠ 0) && decide (c.missLimit ≤ x.missCount + 1)

/-- The miss or skew event reported for an ACTIVE lane (R21, R156). -/
def State.reportOutcome (s : State) (l : Lane) (o : LaneOutcome) : State :=
  match o with
  | .inWindow => s
  | .outOfWindow => s.stat fun c => { c with skews := bumpLane c.skews l }
  | .nothing => s.stat fun c => { c with misses := bumpLane c.misses l }

/-- One lane's counts at the close of a group period. -/
def State.countLane (o : PerLane LaneOutcome) (s : State) (l : Lane) : State :=
  if (s.lane l).state = .active then
    (s.modLane l fun x => x.count s.relay.input (o.get l)).reportOutcome l (o.get l)
  else s

/-- The counts of every ACTIVE lane, then the faults, then the aligner's reaction to each lane lost (R21, R24). -/
def State.countGroup (s : State) (o : PerLane LaneOutcome) : State :=
  let lost := allLanes.filter fun l =>
    decide ((s.lane l).state = .active) && (s.lane l).countFaults s.relay.input (o.get l)
  let s1 := (allLanes.foldl (State.countLane o) s).eachFree lost State.laneFaulted
  lost.foldl State.laneLost s1

/-! ## Rejoin (R26) -/

/-- The lane is back: ACTIVE with counts cleared, the aligner LOCKED. -/
def State.rejoin (s : State) (l : Lane) : State :=
  let s1 := s.modLane l fun x => { x with state := .active, missCount := 0, skewCount := 0, rejoinRun := 0 }
  State.reevaluate { s1 with lra.aligner := .locked }

/-- The outcome of a lane that is not ACTIVE, in a frame gap of a DEGRADED aligner. -/
def State.rejoinLane (o : PerLane LaneOutcome) (s : State) (l : Lane) : State :=
  if (s.lane l).state = .active then s
  else if (s.lane l).searchOutcome (o.get l) then
    if 16 ≤ (s.lane l).rejoinRun + 1 then
      if s.rejoinPermit then s.rejoin l else s.modLane l fun x => { x with rejoinRun := 0 }
    else s.modLane l fun x => { x with rejoinRun := x.rejoinRun + 1 }
  else s.modLane l fun x => { x with rejoinRun := 0 }

/-- The rejoin run of a DEGRADED aligner: counted in a frame gap, held outside one. -/
def State.rejoinGroup (s : State) (o : PerLane LaneOutcome) : State :=
  if s.lra.aligner = .degraded && decide (s.lra.assembly = .gap) then
    match allLanes.find? fun l => decide ((s.lane l).state ≠ .active) with
    | some l => s.rejoinLane o l
    | none => s
  else s

/-! ## Lane test (R40, R41) -/

/-- The next bit of x^15 + x^14 + 1 and the generator after it; bit 0 is the latest bit. -/
def nextTestBit (g : BitVec 15) : Bool × BitVec 15 :=
  let b := g.getLsbD 13 != g.getLsbD 14
  (b, (g <<< 1) ||| (if b then 1 else 0))

/-- The next n bits of the sequence, first sent in the most significant place. -/
def testBits : Nat → BitVec 15 → Nat × BitVec 15
  | 0, g => (0, g)
  | n + 1, g =>
    let r := nextTestBit g
    let rest := testBits n r.2
    ((if r.1 then 2 ^ n else 0) + rest.1, rest.2)

/-- One lane's word while the lane test is on (R41). -/
def LaneRec.testWord (x : LaneRec) (w : LaneWord) : LaneRec :=
  match x.generator with
  | none => { x with testSeen := true, generator := some (w.extractLsb' 0 15) }
  | some g =>
    let r := testBits 36 g
    if r.1 = (payload w).toNat then { x with generator := some r.2 }
    else { x with generator := some r.2, testError := true, testErrorCount := satInc 65535 x.testErrorCount }

def State.testLane (d : PerLane Delivery) (s : State) (l : Lane) : State :=
  match deliveredWord (d.get l) with
  | some w => s.modLane l fun x => x.testWord w
  | none => s

/-- LANE_TEST_ON clears a lane's results and leaves its generator unseeded (R40). -/
def LaneRec.startTest (x : LaneRec) : LaneRec :=
  { x with testSeen := false, testError := false, testErrorCount := 0, generator := none }

/-! ## Quiet and activity (R20) -/

/-- A lane's line has gone static. -/
def State.goQuiet (s : State) (l : Lane) : State :=
  match (s.lane l).state with
  | .quiet => s.modLane l fun x => { x with activitySeen := false, rejoinRun := 0 }
  | .active => ((s.modLane l fun x => { x with state := .quiet, activitySeen := false, rejoinRun := 0 }).raiseLaneFault 2 l
      |>.laneLost l).reevaluate
  | .faulted =>
    ((s.modLane l fun x => { x with state := .quiet, activitySeen := false, rejoinRun := 0 }).raiseLaneFault 2 l).reevaluate

/-- The line of a QUIET lane shows activity. -/
def State.seeActivity (s : State) (l : Lane) : State :=
  if (s.lane l).state = .quiet then s.modLane l fun x => { x with activitySeen := true } else s

end Sys2Proof.Machine
end

