-- ==== Sys2Proof/Machine/MemoryPort.lean ====
section
/-! DEFINITION. The frame memory port: requesters, arbiter, completions, self-refresh and retention
(chapter 8, section 7.4). -/
namespace Sys2Proof.Machine

/-! ## Ends of capture reads (R139, R140, R142, R150) -/

/-- The result reaches the port's open transaction, if it waits for one (R160). -/
def PortCtl.captureResult (p : PortCtl) (st : Status) (data : List Byte) : PortCtl :=
  if p.txn = some .waiting then { p with txn := some (.ready st data) } else p

/-- A port's capture read leaves its queue with a status and its data. -/
def State.endCapture (s : State) (p : Port) (st : Status) (data : List Byte) : State :=
  let s1 := { s with mpt.capture := s.mpt.capture.set p none }
  s1.setPort p ((s1.port p).captureResult st data)

/-- The port's capture read has been granted and is in progress. -/
def State.captureGranted (s : State) (p : Port) : Bool :=
  match s.mpt.transfer with
  | some (.captureRead q _ _ wanted) => decide (q = p) && wanted
  | _ => false

/-- A capture read queued at port p and not yet granted. -/
def State.captureQueued (s : State) (p : Port) : Bool :=
  (s.mpt.capture.get p).isSome && !s.captureGranted p

/-- Each queued read not yet granted ends NO_PIN with zero data (R142, R148). -/
def State.dropCapture (s : State) (p : Port) : State :=
  if s.captureQueued p then s.endCapture p .noPin [] else s

def State.dropCaptures (s : State) : State := (s.dropCapture .system).dropCapture .link

/-! ## The staging queue's head (R39, R137) -/

/-- The head line of the staging queue is being written. -/
def State.headBusy (s : State) : Bool :=
  match s.mpt.transfer with
  | some (.stagingWrite _ _ queued) => queued
  | _ => false

/-- A line whose slot no longer holds its frame is dropped when it reaches the head (R39). One that waits at the head
already, not granted, when its slot loses the frame is dropped at that same event, whatever the power state of the memory
(DESIGN CHOICE, assumption log 40). -/
def State.dropDeadHeads (s : State) : State :=
  if s.headBusy then s
  else { s with lra.staging := s.lra.staging.dropWhile fun l => !s.holdsFrame l.slot l.arrival }

/-- The queue is emptied without writes; a write in progress goes on (R12, R43, R137). -/
def State.emptyStaging (s : State) : State :=
  { s with
    lra.staging := []
    mpt.transfer := match s.mpt.transfer with
      | some (.stagingWrite l a _) => some (.stagingWrite l a false)
      | t => t }

/-! ## Scan reads (R138) -/

/-- The scan's reads still waiting are withdrawn, and one in progress loses its purpose. -/
def State.withdrawScanReads (s : State) : State :=
  { s with
    mpt.scanReads := []
    mpt.transfer := match s.mpt.transfer with
      | some (.scanRead r a _) => some (.scanRead r a false)
      | t => t }

/-! ## The arbiter (R134, R136, R139) -/

/-- The port whose capture read a capture grant takes: the one not granted last, when both wait. -/
def State.capturePick (s : State) : Option Port :=
  match s.mpt.capture.system, s.mpt.capture.link with
  | none, none => none
  | some _, none => some .system
  | none, some _ => some .link
  | some _, some _ => some (if s.mpt.lastGranted = .system then .link else .system)

/-- A capture grant: the transfer begins if the slot still holds the frame, otherwise the read ends NO_PIN. -/
def State.grantCapture (s : State) (p : Port) : State :=
  match s.mpt.capture.get p with
  | none => s
  | some r =>
    let s1 := { s with mpt.lastGranted := p }
    if s.holdsFrame r.slot r.arrival then
      { s1 with mpt.transfer := some (.captureRead p r (s.lineAddr r.slot r.line) true) }
    else s1.endCapture p .noPin []

/-- One grant, by the priorities of R136. -/
def State.grantOnce (s : State) : State :=
  if s.mpt.owed = 8 then { s with mpt.transfer := some .refresh }
  else match s.mpt.scanReads with
    | r :: rest => { s with
        mpt.scanReads := rest
        mpt.transfer := some (.scanRead r (s.lineAddr r.slot r.line) true) }
    | [] => match s.lra.staging with
      | l :: _ => { s with mpt.transfer := some (.stagingWrite l (s.lineAddr l.slot l.line) true) }
      | [] =>
        if 1 ≤ s.mpt.owed then { s with mpt.transfer := some .refresh }
        else match s.capturePick with
          | some p => s.grantCapture p
          | none => s

/-- Grant until a transfer is in progress or nobody waits. Only a capture read that ends NO_PIN makes the arbiter grant
again at the same event, so three rounds are enough. -/
def State.arbitrateFor : Nat → State → State
  | 0, s => s
  | n + 1, s =>
    if s.mpt.power = .active ∧ s.mpt.transfer = none then State.arbitrateFor n s.grantOnce else s

def State.arbitrate (s : State) : State := State.arbitrateFor 3 s

/-! ## Self-refresh and retention (R69, R130, R135, R141) -/

/-- The slots retention frees: every usable slot but the repeat source and the pinned ones. -/
def State.unretained (s : State) : List (Fin 5) :=
  s.usableSlots.filter fun k =>
    decide ((s.slot k).state ≠ .free) && decide (s.pacing.repeatSource ≠ some k) &&
      !((s.slot k).pinHolders.system || (s.slot k).pinHolders.link)

/-- Retention: a record for each freed slot that has none, then every such slot FREE. -/
def State.retain (s : State) : State :=
  let gone := s.unretained
  let s1 := s.eachFree (gone.filter fun k => !(s.slot k).recorded) State.recordIfUnrecorded
  gone.foldl State.freeSlot s1

/-- The conditions of R130 with the port's own of R141. -/
def State.mayRest (s : State) : Bool :=
  decide (s.sco.state = .holding) && decide (s.mpt.power = .active) && decide (s.lra.staging = []) &&
    decide (s.mpt.capture.system = none) && decide (s.mpt.capture.link = none) && decide (s.mpt.transfer = none)

/-- ACTIVE to SELF_REFRESH, with retention at the same event. -/
def State.enterSelfRefresh (s : State) : State :=
  let s1 := { s with mpt.power := .selfRefresh, mpt.owed := 0, mpt.timerRunning := false }
  s1.retain

def State.checkRest (s : State) : State := if s.mayRest then s.enterSelfRefresh else s

/-- What the memory port does at the end of every event that can concern it: dead head lines drop, the entry into
self-refresh is checked, the arbiter grants, and the entry is checked again for a read that ended NO_PIN. -/
def State.settleMemory (s : State) : State := s.dropDeadHeads.checkRest.arbitrate.checkRest

/-- The exit deadline is reached: ACTIVE, the refresh timer restarts (R131, R135, R141). -/
def State.memoryAwake (s : State) : State :=
  { s with mpt.power := .active, mpt.exitDeadline := none, mpt.owed := 0, mpt.timerRunning := true }

/-! ## Completions (R135, R137 to R139) -/

/-- A staging write completes: the pixels are in memory, the line leaves the queue and is counted (R137). -/
def State.finishStagingWrite (s : State) (l : StagedLine) (addr : Nat) (queued : Bool) : State :=
  let s1 := { s with
    mpt.transfer := none
    mpt.frameMemory := writePixels s.mpt.frameMemory addr l.pixels
    lra.staging := if queued then s.lra.staging.drop 1 else s.lra.staging }
  s1.lineWritten l

/-- The last panel line that shows source line y of a scan (R105). -/
def Placement.lastPanelLine (p : Placement) (y : Nat) : Nat := p.y0 + p.scale * y + (p.scale - 1)

/-- A delivered line is held while a panel line that shows it is still to come (R138). -/
def Scan.deliver (c : Scan) (y : Nat) (pixels : List Rgb) : Scan :=
  match c.placement with
  | some p => if c.nextLine ≤ p.lastPanelLine y then { c with lines := c.lines ++ [(y, pixels)] } else c
  | none => c

/-- A scan read completes: its pixels go to the scan that asked for them (R138). -/
def State.finishScanRead (s : State) (r : ScanRead) (addr : Nat) (live : Bool) : State :=
  let pixels := readPixels s.mpt.frameMemory addr 0 r.width
  { s with
    mpt.transfer := none
    sco.scan := if live then s.sco.scan.map fun c => c.deliver r.line pixels else s.sco.scan }

/-- A pixel as the capture window returns it: 6 bytes, 12-bit components in 16-bit values (R150). -/
def captureBytes (p : Rgb) : List Byte :=
  beBytes 2 p.r.toNat ++ beBytes 2 p.g.toNat ++ beBytes 2 p.b.toNat

/-- A capture read completes: status OK and its data, unless its transaction has ended (R139, R160). -/
def State.finishCaptureRead (s : State) (p : Port) (r : CaptureRead) (addr : Nat) (wanted : Bool) : State :=
  let data := (readPixels s.mpt.frameMemory addr r.first r.count).flatMap captureBytes
  let s1 := { s with mpt.transfer := none }
  if wanted then s1.endCapture p .ok data else s1

/-- A refresh completes (R135). -/
def State.finishRefresh (s : State) : State := { s with mpt.transfer := none, mpt.owed := s.mpt.owed - 1 }

end Sys2Proof.Machine
end

