-- ==== Sys2Proof/Machine/OverlayUnit.lean ====
section
/-! DEFINITION. The overlay unit: validation at apply, clipping, the commit report, bitmap lookup and the blend
(chapter 6). -/
namespace Sys2Proof.Machine

/-! ## Validation at apply (R117, R118) -/

/-- The extent of a bitmap in overlay memory (R113). -/
def Plane.extent (p : Plane) : Nat :=
  p.base.toNat + (p.height.toNat - 1) * p.stride.toNat + ceilDiv p.width.toNat 4

/-- The base is a multiple of 4 and the stride a multiple of 4 from 4 to 1,024. -/
def Plane.bitmapAligned (p : Plane) : Bool :=
  decide (p.base.toNat % 4 = 0) && decide (p.stride.toNat % 4 = 0) && decide (4 ≤ p.stride.toNat) &&
    decide (p.stride.toNat ≤ 1024)

/-- A plane's outcome against a panel of pw by ph: the first check that fails skips it, else it is clipped. -/
def Plane.judge (p : Plane) (pw ph : Nat) : PlaneOutcome :=
  if p.enable = false then .disabled
  else if p.width = 0 ∨ p.height = 0 then .skipped .zeroSize
  else if ¬(p.x.toNat < pw ∧ p.y.toNat < ph) then .skipped .offPanel
  else if ¬(p.kind = 0 ∨ p.kind = 1) then .skipped .badKind
  else if p.kind = 1 ∧ p.bitmapAligned = false then .skipped .badBitmap
  else if p.kind = 1 ∧ 65536 < p.extent then .skipped .extent
  else
    let w := min p.width.toNat (pw - p.x.toNat)
    let h := min p.height.toNat (ph - p.y.toNat)
    if w < p.width.toNat ∨ h < p.height.toNat then .clipped w h else .shown w h

/-- The record the active list takes for a plane with this outcome (R118). -/
def Plane.install (p : Plane) (o : PlaneOutcome) : Plane :=
  match o with
  | .shown w h => { p with enable := true, width := BitVec.ofNat 12 w, height := BitVec.ofNat 12 h }
  | .clipped w h => { p with enable := true, width := BitVec.ofNat 12 w, height := BitVec.ofNat 12 h }
  | .disabled => { p with enable := false }
  | .skipped _ => { p with enable := false }

/-- A waiting commit is validated and installed at a scan open, reported, and OVERLAY_APPLIED raised (R116, R119). -/
def State.installOverlay (s : State) (kind : ScanKind) : State :=
  match s.ovl.waiting with
  | none => s
  | some (number, planes) =>
    let c := s.contract
    let outcomes := planes.map fun p => p.judge c.pw c.ph
    let s1 := { s with
      ovl.active := Vector.ofFn fun i => (planes[i]).install (outcomes[i])
      ovl.waiting := none
      ovl.replaced := 0
      ovl.report := some { number := number, replaced := s.ovl.replaced, openTime := s.relayTime, kind := kind,
                           pw := c.pw, ph := c.ph, outcomes := outcomes } }
    s1.raise .overlayApplied 0

/-! ## Drawing (R113, R120, R121) -/

/-- The 2-bit value of the pixel in column i and row r of a bitmap plane (R113). -/
def Plane.bitmapPixel (m : Memory) (p : Plane) (r i : Nat) : Nat :=
  ((readByte m (p.base.toNat + r * p.stride.toNat + i / 4)).toNat / 4 ^ (3 - i % 4)) % 4

/-- The plane's colour and palette alpha at a column and row of it (R120). -/
def Plane.colorAt (m : Memory) (p : Plane) (r i : Nat) : Rgb × Nat :=
  if p.kind = 1 then
    let e := p.palette[p.bitmapPixel m r i]?.getD default
    (e.color, e.alpha.toNat)
  else (p.fill, 255)

/-- Combined alpha. -/
def combinedAlpha (planeAlpha paletteAlpha : Nat) : Nat := (planeAlpha * paletteAlpha + 127) / 255

/-- Weight. -/
def blendWeight (a : Nat) : Nat := a + a / 128

/-- One component blended over another with weight e (R121). -/
def blendComponent (base top : Component) (e : Nat) : Component :=
  BitVec.ofNat 12 ((base.toNat * (256 - e) + top.toNat * e + 128) / 256)

def blend (base top : Rgb) (e : Nat) : Rgb :=
  { r := blendComponent base.r top.r e, g := blendComponent base.g top.g e, b := blendComponent base.b top.b e }

/-- The panel pixel lies in the plane's drawn rectangle. -/
def Plane.covers (p : Plane) (px py : Nat) : Bool :=
  p.enable && decide (p.x.toNat ≤ px) && decide (px < p.x.toNat + p.width.toNat) &&
    decide (p.y.toNat ≤ py) && decide (py < p.y.toNat + p.height.toNat)

/-- One plane over the current value of one panel pixel. -/
def Plane.paint (m : Memory) (px py : Nat) (cur : Rgb) (p : Plane) : Rgb :=
  if p.covers px py then
    let ca := p.colorAt m (py - p.y.toNat) (px - p.x.toNat)
    blend cur ca.1 (blendWeight (combinedAlpha p.alpha.toNat ca.2))
  else cur

/-- The planes of the active list over one panel pixel, plane 0 first (R120). -/
def Overlay.compose (o : Overlay) (px py : Nat) (base : Rgb) : Rgb :=
  o.active.toList.foldl (Plane.paint o.memory px py) base

/-- The active list over a whole panel line. -/
def Overlay.composeLine (o : Overlay) (y : Nat) (line : List Rgb) : List Rgb :=
  line.zipIdx.map fun p => o.compose p.2 y p.1

end Sys2Proof.Machine
end

