-- ==== Sys2Proof/Machine/ScanUnit.lean ====
section
/-! DEFINITION. The scan-out: fetch decisions, drawing a panel line, the beginning, close and abort of a scan
(chapter 5). -/
namespace Sys2Proof.Machine

def State.modScan (s : State) (f : Scan → Scan) : State := { s with sco.scan := s.sco.scan.map f }

/-! ## The slice fetch (R100 to R104) -/

/-- The panel line of slice j's first line plus the origin of the fetch line: j is fetched at this minus 2sh. -/
def Placement.firstLine (p : Placement) (j : Nat) : Nat := p.y0 + p.scale * p.sliceHeight * j

/-- The slices whose fetch line is panel line y; at the open, those whose fetch line is 0 or below (R100). -/
def Placement.fetchedAt (p : Placement) (y : Nat) : List Nat :=
  (List.range p.slices).filter fun j =>
    if y = 0 then decide (p.firstLine j ≤ 2 * p.scale * p.sliceHeight)
    else decide (p.firstLine j = y + 2 * p.scale * p.sliceHeight)

/-- The class of a slice by the state of the scanned slot's entry (R102). -/
def classOf (x : SliceState) : SliceClass :=
  match x with
  | .ready => .good
  | .damaged => .damaged
  | .empty => .late
  | .filling => .late

/-- The decision and class of a slice (R102). `cover` says the usable fallback's entry for it is READY. -/
def decideSlice (x : SliceState) (cover : Bool) : SliceDecision :=
  { choice := if x = .ready then .scanned else if cover then .fallback else .border, cls := some (classOf x) }

/-- The decision joins the scan's table and counts (R102). -/
def Scan.decided (c : Scan) (j : Nat) (d : SliceDecision) : Scan :=
  { c with
    decisions := c.decisions.set j d
    late := if d.cls = some .late then c.late + 1 else c.late
    damaged := if d.cls = some .damaged then c.damaged + 1 else c.damaged
    bordered := if d.choice = .border then c.bordered + 1 else c.bordered }

/-- A late or damaged decision is reported to the record unit at once (R102, R156). -/
def State.reportSlice (s : State) (cls : Option SliceClass) : State :=
  match cls with
  | some .late => s.stat fun c => { c with lateSlices := bump c.lateSlices }
  | some .damaged => s.stat fun c => { c with damagedSlices := bump c.damagedSlices }
  | _ => s

/-- The source lines of slice j, in ascending order (R104). -/
def Placement.linesOf (p : Placement) (j : Nat) : List Nat :=
  (List.range (min p.sliceHeight (p.height - j * p.sliceHeight))).map fun i => j * p.sliceHeight + i

/-- The scan reads a decision requests (R104, R138). -/
def readsFor (p : Placement) (j : Nat) (from_ : Option (Fin 5)) : List ScanRead :=
  match from_ with
  | some k => (p.linesOf j).map fun y => { slot := k, line := y, width := p.width }
  | none => []

/-- The slot a decided slice is read from. -/
def Scan.sourceOf (c : Scan) (d : SliceDecision) : Option (Fin 5) :=
  match d.choice with
  | .scanned => c.slot
  | .fallback => c.fallback
  | .border => none
  | .undecided => none

/-- The fallback is consulted for a slice whose scanned entry is not READY: usable, and read as a second entry unless
it is the scanned slot itself. The result is the state after the read and whether the fallback covers the slice. -/
def State.askFallback (s : State) (c : Scan) (k : Fin 5) (j : Nat) : State × Bool :=
  if ((s.slot k).entry j).state = .ready || !c.fallbackUsable then (s, false)
  else match c.fallback with
    | some b =>
      if b = k then (s, false)
      else
        let s1 := s.checkEntry b j
        (s1, decide (((s1.slot b).entry j).state = .ready))
    | none => (s, false)

/-- The fetch decision of slice j (R102): the scanned entry is read with its check, then the fallback's if needed. -/
def State.fetchSlice (s : State) (j : Nat) : State :=
  match s.sco.scan with
  | none => s
  | some c =>
    match c.slot, c.placement with
    | some k, some p =>
      let s1 := s.checkEntry k j
      let r := s1.askFallback c k j
      let d := decideSlice ((s1.slot k).entry j).state r.2
      let s2 := (r.1.modScan fun c => c.decided j d).reportSlice d.cls
      { s2 with mpt.scanReads := s2.mpt.scanReads ++ readsFor p j (c.sourceOf d) }
    | _, _ => s

/-- The fetch decisions due at panel line y, in ascending order of slices. -/
def State.fetchAt (s : State) (y : Nat) : State :=
  match s.sco.scan.bind (·.placement) with
  | some p => (p.fetchedAt y).foldl State.fetchSlice s
  | none => s

/-! ## Drawing a panel line (R104, R105) -/

/-- Panel line y lies in the source region. -/
def Placement.showsLine (p : Placement) (y : Nat) : Bool :=
  decide (p.y0 ≤ y) && decide (y < p.y0 + p.scale * p.height)

/-- The source line of panel line y. -/
def Placement.sourceLine (p : Placement) (y : Nat) : Nat := (y - p.y0) / p.scale

/-- The source part of a panel line: a source line's pixels placed and scaled, border colour at either side. -/
def Scan.placeLine (c : Scan) (p : Placement) (pixels : List Rgb) : List Rgb :=
  (List.range c.pw).map fun x =>
    if p.x0 ≤ x ∧ x < p.x0 + p.scale * p.width then pixels[(x - p.x0) / p.scale]?.getD c.border else c.border

def Scan.borderLine (c : Scan) : List Rgb := List.replicate c.pw c.border

/-- The pixels of source line y as they stand at the scan-out, if its read has been delivered. Panel line 0, while the
memory is ACTIVE, is drawn from the read its decision has just requested (R104). -/
def State.deliveredLine (s : State) (c : Scan) (p : Placement) (y : Nat) (d : SliceDecision) : Option (List Rgb) :=
  match c.lines.find? fun x => decide (x.1 = y) with
  | some x => some x.2
  | none =>
    if c.nextLine = 0 ∧ s.mpt.power = .active then
      (c.sourceOf d).map fun k => readPixels s.mpt.frameMemory (s.lineAddr k y) 0 p.width
    else none

/-- A slice whose line was drawn without its read: GOOD becomes LATE (R104). -/
def Scan.reclass (c : Scan) (j : Nat) (d : SliceDecision) : Scan :=
  if d.cls = some .good then
    { c with decisions := c.decisions.set j { d with cls := some .late }, late := c.late + 1, drewBorder := true }
  else { c with drewBorder := true }

/-- The reclassing of slice j for one panel line drawn without its read, with its report. -/
def State.missedRead (s : State) (j : Nat) (d : SliceDecision) : State :=
  (s.modScan fun c => c.reclass j d).reportSlice (if d.cls = some .good then some .late else none)

/-- The base pixels of panel line y, and the state after a slice is reclassed for it. -/
def State.baseLine (s : State) (c : Scan) (y : Nat) : State × List Rgb :=
  match c.placement with
  | none => (s, c.borderLine)
  | some p =>
    if p.showsLine y then
      let sl := p.sourceLine y
      let j := sl / p.sliceHeight
      let d := c.decisions[j]?.getD default
      match d.choice with
      | .border => (s, c.borderLine)
      | .undecided => (s, c.borderLine)
      | .scanned | .fallback =>
        match s.deliveredLine c p sl d with
        | some pixels => (s, c.placeLine p pixels)
        | none => (s.missedRead j d, c.borderLine)
    else (s, c.borderLine)

/-- Delivered lines whose last panel line has been drawn are let go (R138). -/
def Scan.release (c : Scan) : Scan :=
  match c.placement with
  | some p => { c with lines := c.lines.filter fun x => decide (c.nextLine ≤ p.lastPanelLine x.1) }
  | none => c

/-- The scan reaches its next panel line: fetch decisions due there, then the composed LINE (R98, R100, R105). -/
def State.drawNext (s : State) : State :=
  match s.sco.scan with
  | none => s
  | some c0 =>
    let y := c0.nextLine
    let s1 := s.fetchAt y
    match s1.sco.scan with
    | none => s1
    | some c =>
      let r := s1.baseLine c y
      let s2 := r.1.modScan fun c => { c with nextLine := y + 1 }.release
      s2.send (.line y (s.ovl.composeLine y r.2))

/-- When the scan reaches panel line y (R98). -/
def Scan.lineDeadline (c : Scan) (y : Nat) : Deadline := { origin := c.openTime, span := c.span * y / c.ph }

def Scan.closeDeadline (c : Scan) : Deadline := { origin := c.openTime, span := c.span }

/-! ## The beginning of a scan (R66, R99, R101) -/

def Slot.placement (r : Slot) : Placement :=
  { scale := r.scale, x0 := r.x0, y0 := r.y0, width := r.width, height := r.height,
    sliceHeight := r.sliceHeight, slices := r.slices }

/-- The fallback slot's frame can supply slices to this scan (R101). -/
def State.fallbackUsable (s : State) (k fallback : Option (Fin 5)) : Bool :=
  match k, fallback with
  | some k, some b =>
    decide ((s.slot k).width = (s.slot b).width) && decide ((s.slot k).height = (s.slot b).height) &&
      decide ((s.slot k).sliceHeight = (s.slot b).sliceHeight)
  | _, _ => false

/-- The current scan as it is set at the open (R99). -/
def State.newScan (s : State) (kind : ScanKind) (k fallback : Option (Fin 5)) : Scan :=
  { kind := kind, slot := k, fallback := fallback, openTime := s.relayTime, span := s.contract.span,
    pw := s.contract.pw, ph := s.contract.ph, border := s.contract.border,
    placement := k.map fun k => (s.slot k).placement
    fallbackUsable := s.fallbackUsable k fallback
    nextLine := 0
    decisions := match k with
      | some k => List.replicate (s.slot k).slices default
      | none => []
    late := 0, damaged := 0, bordered := 0, drewBorder := false, lines := [] }

/-- SCAN_OPEN, the fetch decisions of the open and panel line 0, at one event (R98, R100). -/
def State.beginScan (s : State) (kind : ScanKind) (k fallback : Option (Fin 5)) : State :=
  let s1 := { s with sco.state := .scanning, sco.scan := some (s.newScan kind k fallback) }
  (s1.send (.scanOpen kind)).drawNext

/-! ## Close and abort (R79, R106, R108) -/

/-- Some slice was decided FALLBACK or BORDER, or a line was drawn in border colour for want of its read. -/
def Scan.substituted (c : Scan) : Bool :=
  c.drewBorder || c.decisions.any fun d => decide (d.choice = .fallback) || decide (d.choice = .border)

/-- The last-scan part of the status view (R109). -/
def Scan.summary (c : Scan) (ending : ScanEnding) : LastScan :=
  { kind := c.kind, slot := c.slot, openTime := c.openTime, ending := ending, late := c.late,
    damaged := c.damaged, bordered := c.bordered, substituted := c.substituted }

/-- The penalty level and clean count after a PASS frame's NEW scan (R79). -/
def Pacing.afterScan (p : Pacing) (late : Nat) : Pacing :=
  if 1 ≤ late then { p with penalty := min (p.penalty + 1) 4, clean := 0 }
  else if p.clean < 15 then { p with clean := p.clean + 1 }
  else { p with penalty := p.penalty - 1, clean := 0 }

/-- Steps 1 to 3 of a NEW scan's close: its record, LATE_SLICES, the penalty (R106). The late count stays in the slot
record for the slot status view (R95; DESIGN CHOICE, assumption log 36). -/
def State.reportNewScan (s : State) (c : Scan) (k : Fin 5) : State :=
  let part : NewScanPart :=
    { openTime := c.openTime, lag := (s.slot k).lag.getD 0, late := c.late, damaged := c.damaged,
      substituted := c.substituted }
  let s1 := s.appendRecord k false (some part)
  let s2 := if 1 ≤ c.late then s1.raise .lateSlices 0 else s1
  let s3 := s2.modSlot k fun r => { r with lateSlices := c.late }
  if (s.slot k).mode = some .pass then { s3 with pacing := s3.pacing.afterScan c.late } else s3

/-- The scanned slot is no longer under scan and the scan is gone, its reads withdrawn (R67, R138). -/
def State.endScan (s : State) (c : Scan) (ending : ScanEnding) : State :=
  let s1 := match c.slot with
    | some k => s.modSlot k fun r => { r with underScan := false }
    | none => s
  { s1 with sco.scan := none, sco.state := .ready, sco.lastScan := some (c.summary ending) }.withdrawScanReads

/-- The close of the current scan (R106). -/
def State.closeScan (s : State) (c : Scan) : State :=
  let s1 := s.send .scanClose
  let s2 := match c.kind, c.slot with
    | .new, some k => s1.reportNewScan c k
    | _, _ => s1
  (s2.endScan c .closed).reevalRepeatFull

end Sys2Proof.Machine
end

