-- ==== Sys2Proof/Machine/PacingEngine.lean ====
section
/-! DEFINITION. The pacing engine: source intervals, lead, start conditions, the scan open with the panel apply and
relayout it may install, hold entry and exit, and what follows an event (chapters 1, 4 and 7). -/
namespace Sys2Proof.Machine

/-! ## Source intervals and lead (R73 to R78) -/

/-- An accepted FS of this size is a geometry change (R74). -/
def State.geometryChange (s : State) (w h : Nat) : Bool :=
  match s.pacing.prevSize with
  | some z => decide (z ≠ (w, h))
  | none => false

/-- The interval joins the history at its newest end; the oldest of 8 leaves first (R73). -/
def joinInterval (xs : List Nat) (i : Nat) : List Nat := (if 8 ≤ xs.length then xs.drop 1 else xs) ++ [i]

/-- R74, then R73, at an accepted FS whose arrival is the relay time. -/
def State.takeArrival (s : State) (w h : Nat) : State :=
  let s1 := if s.geometryChange w h then s.pacingLock
    else match s.pacing.prevArrival with
      | some a => { s with pacing.intervals := joinInterval s.pacing.intervals (min (since s.relayTime a) 1000000) }
      | none => s
  { s1 with pacing.prevSize := some (w, h), pacing.prevArrival := some s.relayTime }

/-- O: the time from scan open to the first panel line of the source region (R76). -/
def openToSource (c : PanelContract) (y0 : Nat) : Nat := c.span * y0 / c.ph

/-- S_eff: the time the scan takes to cross the source region (R76). -/
def sourceSpan (c : PanelContract) (scale h : Nat) : Nat := c.span * scale * h / c.ph

/-- The lead W (R78), from D_ref, N, O, S_eff, G and the penalty level. Subtraction stops at 0, which agrees with the
signed intermediate because the first term of the maximum is at least 1 whenever D_ref and N are. -/
def leadFor (dRef n o sEff g level : Nat) : Nat :=
  let base := max (ceilDiv dRef n) (dRef - sEff * (n - 1) / n)
  let fetch := ceilDiv (2 * sEff) n
  let step := ceilDiv sEff n
  min ((base + fetch - o) + g + level * step) 65535

/-- D_ref, clamped to the range 1 to 1,000,000 (R77). -/
def referenceSpan (referenceD : Option Nat) (sEff : Nat) : Nat := max 1 (min (referenceD.getD sEff) 1000000)

/-! ## Start conditions (R80 to R83) -/

/-- The frame's own conditions, the scan-out apart; `gate` says the Tmin gate counts as met (R81, R82). -/
def Slot.mayStart (r : Slot) (lf : Nat) (gate : Bool) : Bool :=
  match r.mode with
  | some .pass =>
    (decide (lf ≤ r.readyCount) || decide (r.state = .draining) || decide (r.state = .complete) ||
      decide (r.state = .short)) && r.leadReached && gate
  | _ => (decide (r.state = .complete) || decide (r.state = .short)) && gate

/-- The unscanned frames that meet their start conditions. -/
def State.candidates (s : State) (gate : Bool) : List (Fin 5) :=
  s.usableSlots.filter fun k => s.unscanned k && (s.slot k).mayStart s.contract.lf gate

/-- Latest wins: the candidate with the youngest A (R83), of equals the lowest-numbered (assumption log 43). -/
def State.candidate (s : State) (gate : Bool) : Option (Fin 5) := s.youngest (s.candidates gate)

/-- The Tmin gate has been reached, or no scan has opened since the relay left IDLE (R81). -/
def State.gateMet (s : State) : Bool := s.pacing.tminReached || decide (s.pacing.lastOpen = none)

/-! ## Deadlines (R84, R85, R92) -/

def State.tminGate (s : State) : Option Deadline :=
  s.pacing.lastOpen.map fun o => { origin := o.time, span := o.tmin }

/-- The idle interval serves in BORDER with the grace flag clear, Tmax otherwise (R92). -/
def State.usesIdle (s : State) : Bool := decide (s.relay.state = .border) && !s.relay.graceFlag

def State.repeatDeadline (s : State) : Option Deadline :=
  s.pacing.lastOpen.map fun o => { origin := o.time, span := if s.usesIdle then o.idle else o.tmax }

/-- The repeat deadline is reached. The idle interval once passed stays so while relay time wraps (R92, R127). -/
def State.repeatDue (s : State) : Bool := deadlineDue s.repeatDeadline s.relayTime || (s.usesIdle && s.idlePassed)

/-! ## Relayout and the panel apply (R11 to R13, R148) -/

/-- What relayout clears in the pacing engine (R72, R91). -/
def State.pacingRelayout (s : State) : State :=
  { s.clearPlanned with
    pacing.intervals := [], pacing.penalty := 0, pacing.clean := 0, pacing.referenceD := none
    pacing.presented := none, pacing.repeatSource := none }

/-- Pins and the capture reads that need them go (R12, R148). -/
def State.dropPinsRelayout (s : State) : State :=
  (s.eachFree (s.pinPorts fun _ => true) (State.expirePin 2)).dropCaptures

/-- Frame memory is re-divided for a contract (R12). Only a frame being received is cut: an assembly that is DISCARDING
stays so (R34). -/
def State.relayout (s : State) (c : PanelContract) : State :=
  let s1 := s.cutAtBoundary.emptyStaging.dropPinsRelayout
  let s2 := { s1 with
    store.slots := Vector.replicate 5 Slot.reset
    store.lineBytes := lineBytesFor c.pw
    store.slotBytes := slotBytesFor c
    store.usable := usableFor c }
  s2.pacingRelayout

/-- The snapshot changes PW, PH or M, or is the first to take effect (R11). -/
def needsRelayout (old : Option PanelContract) (c : PanelContract) : Bool :=
  match old with
  | none => true
  | some o => decide (o.pw ≠ c.pw) || decide (o.ph ≠ c.ph) || decide (o.memory ≠ c.memory)

/-- A waiting panel apply takes effect, CONTRACT_APPLIED with reason PANEL (2) (R11). -/
def State.installPanel (s : State) : State :=
  match s.relay.waitingPanel with
  | none => s
  | some c =>
    let s1 := { s with relay.panel := some c, relay.waitingPanel := none }.raise .contractApplied (causeDetail 2 0)
    if needsRelayout s.relay.panel c then s1.relayout c else s1

/-! ## The scan open (R84, R86 to R88, R129) -/

/-- The kind of the scan and its slot, the Tmin gate counted as met (R86). -/
def State.chooseScan (s : State) : ScanKind × Option (Fin 5) :=
  match s.candidate true with
  | some k => (.new, some k)
  | none =>
    match s.pacing.repeatSource with
    | some k =>
      if s.relay.state = .relaying ∨ (s.relay.state = .border ∧ s.relay.graceFlag) then (.repeat, some k)
      else (.border, none)
    | none => (.border, none)

/-- P_last, the open figures and the kind are recorded; planned repeats at or before the open leave the list; the gate
and the waiting repeat start afresh (R84, R87, R90). -/
def State.recordOpen (s : State) (kind : ScanKind) : State :=
  let c := s.contract
  { s with
    pacing.lastOpen := some { time := s.relayTime, tmin := c.tmin, tmax := c.tmax, idle := c.idle, kind := kind }
    idlePassed := false
    pacing.tminReached := false
    pacing.waitingRepeat := false
    pacing.planned := s.pacing.planned.filter fun d => !d.due s.relayTime }

/-- The declared interval serves in FIXED rate mode, in the range 2,000 to 1,000,000 µs (R75). -/
def Slot.declaredInterval (r : Slot) : Option Nat :=
  match r.rate, r.declared with
  | some .fixed, some v => if 2000 ≤ v.toNat ∧ v.toNat ≤ 1000000 then some v.toNat else none
  | _, _ => none

/-- The mean of the newest four intervals, if there are four (R75). -/
def meanOfFour (xs : List Nat) : Option Nat :=
  if 4 ≤ xs.length then some ((xs.drop (xs.length - 4)).sum / 4) else none

/-- Q for the frame being opened (R75). -/
def State.predict (s : State) (k : Fin 5) : State :=
  match (s.slot k).declaredInterval with
  | some q => { s with pacing.predicted := some q, pacing.predictedDeclared := true }
  | none => { s with pacing.predicted := meanOfFour s.pacing.intervals, pacing.predictedDeclared := false }

/-- The repeats planned at P_last + i × R for i = 1 to m − 1 (R88). -/
def plannedRepeats (p : Stamp) (m r : Nat) : List Deadline :=
  (List.range (m - 1)).map fun i => { origin := p, span := (i + 1) * r }

/-- Low-rate compensation at a NEW open (R88). -/
def State.planRepeats (s : State) : State :=
  let s1 := { s with pacing.planned := [], pacing.planM := 0, pacing.planR := 0 }
  match s.pacing.predicted, s.pacing.lastOpen with
  | some q, some o =>
    if s.lfcPermit = true ∧ 2 * o.tmin ≤ o.tmax ∧ o.tmax < q then
      let m := ceilDiv q o.tmax
      { s1 with pacing.planned := plannedRepeats o.time m (q / m), pacing.planM := m, pacing.planR := q / m }
    else s1
  | _, _ => s1

/-- The unscanned frames older than the candidate (R63, R83). -/
def State.olderUnscanned (s : State) (k : Fin 5) : List (Fin 5) :=
  s.usableSlots.filter fun j => s.unscanned j && decide (s.age k < s.age j)

/-- A NEW open of slot k (R63, R64, R66, R87). -/
def State.openNew (s : State) (k : Fin 5) : State :=
  let s1 := s.eachFree (s.olderUnscanned k) State.supersede
  let s2 := s1.modSlot k fun r =>
    { r with underScan := true, newCount := 1, lag := some (s.relayTime - r.arrival) }
  let s3 := { s2 with pacing.presented := some k }.reevalRepeatDuring (some k)
  (s3.predict k).planRepeats

/-- A REPEAT open of slot k (R66, R87, R153). -/
def State.openRepeat (s : State) (k : Fin 5) : State :=
  let s1 := s.modSlot k fun r => { r with underScan := true, repeatCount := satInc 65535 r.repeatCount }
  { s1.stat (fun c => { c with repeatScans := bump c.repeatScans }) with
    records.repeatTally := satInc 65535 s.records.repeatTally }

def State.openBorder (s : State) : State := s.stat fun c => { c with borderScans := bump c.borderScans }

/-- The fallback slot fixed at the open (R66). -/
def fallbackFor (kind : ScanKind) (k repeatSource : Option (Fin 5)) : Option (Fin 5) :=
  match kind with
  | .new => repeatSource
  | .repeat => k
  | .border => none

/-- The pacing engine's part of an open of the chosen kind. -/
def State.openKind (s : State) (kind : ScanKind) (k : Option (Fin 5)) : State :=
  match kind, k with
  | .new, some k => s.openNew k
  | .repeat, some k => s.openRepeat k
  | _, _ => s.openBorder

/-- A scan opens, in the order of R129: panel apply, kind, pacing's record of the open, overlay commit, SCAN_OPEN with
panel line 0. -/
def State.openScan (s : State) : State :=
  let s1 := s.installPanel
  let choice := s1.chooseScan
  let fallback := fallbackFor choice.1 choice.2 s1.pacing.repeatSource
  let s2 := (s1.recordOpen choice.1).openKind choice.1 choice.2
  (s2.installOverlay choice.1).beginScan choice.1 choice.2 fallback

/-! ## Hold (R123 to R129) -/

/-- The hold delay has passed since the hold reference stamp (R123). -/
def State.holdDelayPassed (s : State) : Bool :=
  match s.pacing.holdReference with
  | some t => decide (s.contract.holdDelay ≤ since s.relayTime t)
  | none => false

/-- No slot among 0 to U − 1 is FILLING or DRAINING and no frame is unscanned. -/
def State.framesSettled (s : State) : Bool :=
  s.usableSlots.all fun k =>
    decide ((s.slot k).state ≠ .filling) && decide ((s.slot k).state ≠ .draining) && !s.unscanned k

/-- The hold entry conditions (R124). -/
def State.mayHold (s : State) : Bool :=
  s.contract.holdSupported && s.holdPermit && s.holdDelayPassed && s.framesSettled &&
    decide (s.ovl.waiting = none) && decide (s.relay.waitingInput = none) &&
    decide (s.relay.waitingPanel = none) && decide (s.sco.state = .ready)

/-- Hold entry (R125). -/
def State.enterHold (s : State) : State :=
  { (s.send .holdEnter).clearPlanned with sco.state := .holding, sco.lastHoldEntry := some s.relayTime }

/-- At a deadline or planned repeat: hold instead of a scan, or open one (R85, R90). -/
def State.holdOrOpen (s : State) : State := if s.mayHold then s.enterHold else s.openScan

/-- The Tmin gate's time has come, or its reach has been taken, or no scan has opened since the relay left IDLE: a scan
may open (R84). -/
def State.gatePassed (s : State) : Bool := s.gateMet || deadlineDue s.tminGate s.relayTime

/-- The wake completes: READY, and a scan opens at the same event (R128, R129). Before the Tmin gate no scan opens for any
cause, and the open waits for the gate as a planned repeat does (R84, R90; assumption log 27). -/
def State.completeWake (s : State) (ending : WakeEnding) : State :=
  let s1 := { s with sco.state := .ready, sco.wakeDeadline := none, sco.lastWakeEnding := some ending }
  if s1.gatePassed then s1.openScan else { s1 with pacing.waitingRepeat := true }

/-- The wake deadline's reach: PANEL_LATE unless PANEL READY is asserted (R128). -/
def State.wakeLate (s : State) : State :=
  if s.panelReady then s.completeWake .ready else (s.raise .panelLate 0).completeWake .late

/-- A hold exit trigger, taken while HOLDING (R127); PANEL READY asserted, or X = 0, completes the wake at once. -/
def State.exitHold (s : State) (t : HoldTrigger) : State :=
  if s.sco.state = .holding then
    let s1 := { s.send .holdExit with
      sco.state := .waking
      sco.lastHoldExit := some (s.relayTime, t)
      sco.wakeDeadline := some { origin := s.relayTime, span := s.contract.x } }
    let s2 := s1.wakeMemory
    if s2.panelReady then s2.completeWake .ready
    else if s2.contract.x = 0 then s2.wakeLate
    else s2
  else s

/-! ## What follows an event -/

/-- The start conditions are evaluated (R83). -/
def State.evaluateStart (s : State) : State :=
  if s.relay.state ≠ .idle ∧ s.sco.state = .ready ∧ s.candidate s.gateMet ≠ none then s.openScan else s

/-- The repeat deadline got a new span at this event and is already past it: it is reached at this event (R92). -/
def State.respan (s before : State) : State :=
  if s.usesIdle ≠ before.usesIdle ∧ s.relay.state ≠ .idle ∧ s.sco.state = .ready ∧
      s.repeatDue = true then s.holdOrOpen
  else s

/-- The end of an event of the relay: the repeat deadline's new span, the start conditions, the memory port. -/
def State.settle (s before : State) : State :=
  ((s.respan before).evaluateStart).settleMemory

end Sys2Proof.Machine
end

