-- ==== Sys2Proof/Machine/FrameAssembly.lean ====
section
/-! DEFINITION. The vote, the preface, the frame assembly and the line assembly (sections 2.4 to 2.7), and what one
group period does. -/
namespace Sys2Proof.Machine

/-! ## Classification (R28) -/

inductive GroupClass where
  | pixel | control | idle | unresolved
deriving DecidableEq, Repr, Inhabited

/-- The words that take part: those delivered by the lanes that were ACTIVE when the group period began. -/
def State.votingWords (s : State) (d : PerLane Delivery) : PerLane (Option LaneWord) :=
  { a := if s.lra.lanes.a.state = .active then deliveredWord d.a else none
    b := if s.lra.lanes.b.state = .active then deliveredWord d.b else none
    c := if s.lra.lanes.c.state = .active then deliveredWord d.c else none }

def wordList (v : PerLane (Option LaneWord)) : List LaneWord := [v.a, v.b, v.c].filterMap id

def kindCount (ws : List LaneWord) (k : WordKind) : Nat := (ws.filter fun w => decide (wordKind w = k)).length

def controlCount (ws : List LaneWord) : Nat := (ws.filter isControl).length

def classifyLocked (ws : List LaneWord) : GroupClass :=
  if 2 ≤ kindCount ws .pixel then .pixel
  else if 2 ≤ controlCount ws then .control
  else if 2 ≤ kindCount ws .fill then .idle
  else .unresolved

def classifyDegraded (ws : List LaneWord) : GroupClass :=
  if 1 ≤ controlCount ws then .control
  else if 1 ≤ kindCount ws .pixel then .pixel
  else .idle

def classify (aligner : AlignerState) (ws : List LaneWord) : GroupClass :=
  if aligner = .locked then classifyLocked ws else classifyDegraded ws

/-! ## The vote (R29) -/

/-- Same kind and same payload; the synchronisation bits are equal in every word. -/
def sameWord (v w : LaneWord) : Bool := decide (wordKind v = wordKind w) && decide (payload v = payload w)

/-- The control word that two lanes carry identically. Where two lanes vote, two identical words are both of them. -/
def votedWord (ws : List LaneWord) : Option LaneWord :=
  (ws.filter isControl).find? fun w => decide (2 ≤ (ws.filter (sameWord w)).length)

def State.voteFailed (s : State) : State := s.stat fun c => { c with voteFailures := bump c.voteFailures }

/-! ## The preface (R30) -/

def State.takeDescriptor (s : State) (w : LaneWord) : State :=
  if 7 ≤ wordCode w then s.stat fun c => { c with unknownDescriptors := bump c.unknownDescriptors }
  else { s with lra.preface := s.lra.preface.accept (wordCode w) (descriptorValue w) }

/-- The reason for which the held preface is refused: SIZE 1, FORMAT 2, DEPTH 3 (R32, R179). -/
def Preface.depthAccepted (depths : BitVec 3) (v : Option (BitVec 32)) : Bool :=
  match v with
  | some d =>
    (decide (d.toNat = 8) && depths.getLsbD 0) || (decide (d.toNat = 10) && depths.getLsbD 1) ||
      (decide (d.toNat = 12) && depths.getLsbD 2)
  | none => false

def Preface.sizeAccepted (h : Preface) (pw ph : Nat) : Bool :=
  match h.width, h.height with
  | some w, some y =>
    decide (64 ≤ w.toNat) && decide (w.toNat ≤ pw) && decide (64 ≤ y.toNat) && decide (y.toNat ≤ ph)
  | _, _ => false

def Preface.refusal (h : Preface) (pw ph : Nat) (depths : BitVec 3) : Option Nat :=
  if h.sizeAccepted pw ph = false then some 1
  else if h.format ≠ some .rgb444 then some 2
  else if Preface.depthAccepted depths h.depth = false then some 3
  else none

/-! ## Pixel groups and lines (R35 to R38) -/

/-- Depth alignment of one component (R36). -/
def alignComponent (depth : Nat) (c : Component) : Component :=
  BitVec.ofNat 12 (c.toNat % 2 ^ depth * 2 ^ (12 - depth))

def alignPixel (depth : Nat) (p : Rgb) : Rgb :=
  { r := alignComponent depth p.r, g := alignComponent depth p.g, b := alignComponent depth p.b }

/-- The pixel a lane supplies, if it delivered a PIXEL word. -/
def suppliedPixel (depth : Nat) (w : Option LaneWord) : Option Rgb :=
  match w with
  | some w => if wordKind w = .pixel then some (alignPixel depth (pixelOf w)) else none
  | none => none

/-- A group's three positions on the line buffer, those at or beyond the width left out (R35). -/
def storeGroup (width : Nat) (buffer : List (Option Rgb)) (ps : List (Option Rgb)) : List (Option Rgb) :=
  buffer ++ ps.take (width - buffer.length)

/-- The PIXEL words of a group for positions at or beyond the width. -/
def excessOf (width used : Nat) (ps : List (Option Rgb)) : Nat :=
  ((ps.drop (width - used)).filterMap id).length

/-- A pixel group in the line assembly (R34, R35). -/
def State.pixelGroup (s : State) (v : PerLane (Option LaneWord)) : State :=
  match s.receiving with
  | none => s
  | some f =>
    let ps := [suppliedPixel f.depth v.a, suppliedPixel f.depth v.b, suppliedPixel f.depth v.c]
    if f.height ≤ s.lra.linesDone then s
    else if ceilDiv f.width 3 ≤ s.lra.groupIndex then
      { s with lra.excessWords := satAdd max32 s.lra.excessWords (ps.filterMap id).length }
    else
      { s with
        lra.groupIndex := s.lra.groupIndex + 1
        lra.lineBuffer := storeGroup f.width s.lra.lineBuffer ps
        lra.excessWords := satAdd max32 s.lra.excessWords (excessOf f.width (3 * s.lra.groupIndex) ps) }

/-- One component between two received neighbours (R36). -/
def meanComponent (l r : Component) : Component := BitVec.ofNat 12 ((l.toNat + r.toNat + 1) / 2)

/-- A concealed pixel from its nearest received neighbours (R36). -/
def concealPixel (left right : Option Rgb) : Rgb :=
  match left, right with
  | some l, some r => { r := meanComponent l.r r.r, g := meanComponent l.g r.g, b := meanComponent l.b r.b }
  | some l, none => l
  | none, some r => r
  | none, none => { r := 0, g := 0, b := 0 }

/-- The first received pixel of a list. -/
def firstReceived (xs : List (Option Rgb)) : Option Rgb := (xs.filterMap id).head?

/-- A line with every missing position filled; `left` is the nearest received pixel before it. -/
def concealFrom (left : Option Rgb) : List (Option Rgb) → List Rgb
  | [] => []
  | some p :: xs => p :: concealFrom (some p) xs
  | none :: xs => concealPixel left (firstReceived xs) :: concealFrom left xs

/-- The line buffer at its full width: positions of groups that never arrived are missing (R36). -/
def fullLine (width : Nat) (buffer : List (Option Rgb)) : List (Option Rgb) :=
  buffer ++ List.replicate (width - buffer.length) none

/-- A completed line joins the staging queue, or is discarded by a full one (R38). A queue with a line in it wakes the
memory (R131). -/
def State.stageLine (s : State) (f : RxFrame) (concealed : Bool) (pixels : List Rgb) : State :=
  let y := s.lra.linesDone
  let joins := decide (s.lra.staging.length < 64)
  let s1 := s.lineCompleted f.slot y concealed joins
  if joins then
    State.wakeMemory { s1 with
      lra.staging := s1.lra.staging ++
        [{ slot := f.slot, arrival := f.arrival, line := y, concealed := concealed, pixels := pixels }] }
  else (s1.lineDiscarded f.slot y).stat fun c => { c with stagingOverflow := bump c.stagingOverflow }

/-- An LE in RECEIVING (R35, R37). -/
def State.lineEnd (s : State) (f : RxFrame) : State :=
  if f.height ≤ s.lra.linesDone then { s with lra.excessLines := satInc max32 s.lra.excessLines }
  else
    let line := fullLine f.width s.lra.lineBuffer
    let concealed := line.any fun p => p.isNone
    let s1 := s.stageLine f concealed (concealFrom none line)
    let s2 := if concealed then s1.stat fun c => { c with concealedLines := bump c.concealedLines } else s1
    { s2 with lra.linesDone := s.lra.linesDone + 1, lra.groupIndex := 0, lra.lineBuffer := [] }

/-! ## Frames (R31 to R34, R37) -/

/-- An FE (R34, R37). In RECEIVING the frame ends whole or is cut, and either is the boundary of a waiting input apply
(R7). -/
def State.frameEnd (s : State) : State :=
  match s.receiving with
  | some f =>
    let s1 := if f.height ≤ s.lra.linesDone then
      { s.frameEnded f.slot with lra.assembly := .gap, lra.frame := none, lra.lineBuffer := [] }
    else s.cutReceived
    s1.applyInputNow
  | none => { s with lra.assembly := .gap }

/-- Every rejoin run is set to 0 by an FS (R26, R31). -/
def State.clearRejoin (s : State) : State := s.mapLanes fun x => { x with rejoinRun := 0 }

/-- An FS whose frame is not stored (R31, R32). -/
def State.discardFrame (s : State) : State := { s with lra.assembly := .discarding }

/-- A refused FS (R32). -/
def State.refuseFrame (s : State) (reason : Nat) : State :=
  (State.reevaluate { s.raise .formatRefused (causeDetail reason 0) with relay.refused := true }).discardFrame

/-- A gap in the source's frame numbers (R33). -/
def State.numberGap (s : State) (w : LaneWord) : Bool :=
  match s.lra.prevFrameNumber with
  | some n => decide (frameNumberOf w ≠ n + 1) && !newSequence w
  | none => false

/-- The record unit's part of an accepted FS (R33, R156). -/
def State.countFrame (s : State) (w : LaneWord) : State :=
  let gap := s.numberGap w
  let s1 := s.stat fun c => { c with
    framesAccepted := bump c.framesAccepted
    sequenceGaps := if gap then bump c.sequenceGaps else c.sequenceGaps }
  { s1 with lra.prevFrameNumber := some (frameNumberOf w) }

/-- The lead of a PASS frame of w by h pixels (R76 to R78); `none` for a WHOLE frame. -/
def State.leadOf (s : State) (m : FrameMode) (scale y0 h n : Nat) : Option Nat :=
  match m with
  | .whole => none
  | .pass =>
    let sEff := sourceSpan s.contract scale h
    some (leadFor (referenceSpan s.pacing.referenceD sEff) n (openToSource s.contract y0) sEff s.contract.guardTime
      s.pacing.penalty)

/-- The slot record of a frame that an FS opens (R33, R45). -/
def State.openedSlot (s : State) (w : LaneWord) (m : FrameMode) (width height : Nat) : Slot :=
  let pl := placementFor s.scalePermit s.contract.pw s.contract.ph width height
  let h := s.relay.input.sliceHeight
  let n := ceilDiv height h
  let lead := s.leadOf m pl.1 pl.2.2 height n
  { Slot.reset with
    state := .filling, frameNumber := frameNumberOf w, width := width, height := height
    depth := (s.lra.preface.depth.map BitVec.toNat).getD 0
    rate := s.lra.preface.rate, declared := s.lra.preface.declared, lowlag := s.lra.preface.lowlag
    mode := some m, scale := pl.1, x0 := pl.2.1, y0 := pl.2.2, sliceHeight := h, slices := n
    arrival := s.relayTime, lead := lead
    leadGate := lead.map fun x => { origin := s.relayTime, span := x } }

/-- The frame goes into slot k and the assembly to RECEIVING (R33). -/
def State.installFrame (s : State) (k : Fin 5) (r : Slot) : State :=
  { s.modSlot k (fun _ => r) with
    lra.assembly := .receiving
    lra.frame := some { slot := k, arrival := r.arrival, width := r.width, height := r.height, depth := r.depth }
    lra.linesDone := 0, lra.groupIndex := 0, lra.lineBuffer := [] }

/-- An accepted FS opens a frame of width by height pixels (R33), and is a hold exit trigger (R127). No slot to take
is the one fault of this model. -/
def State.openFrame (s : State) (w : LaneWord) (width height : Nat) : Option State :=
  let s1 := State.reevaluate { s with relay.refused := false }
  let s2 := { s1 with relay.lastAccepted := some s.relayTime, pacing.holdReference := some s.relayTime }
  let m := frameModeFor s2.lowlag s2.lra.preface.lowlag
  let s3 := ((s2.takeMode m).takeArrival width height).countFrame w
  let r := s3.openedSlot w m width height
  match s3.countDownPins.takeSlot with
  | some (k, s4) => some ((s4.installFrame k r).exitHold .fs)
  | none => none

/-- An FS that the vote accepted, in the order of R31. -/
def State.frameStart (s : State) (w : LaneWord) : Option State :=
  let s1 := s.cutAtBoundary.clearRejoin
  if s1.lra.aligner = .search then some s1
  else if s1.relay.state = .idle then some s1.discardFrame
  else
    let h := s1.lra.preface
    match h.refusal s1.contract.pw s1.contract.ph s1.relay.input.depths with
    | some reason => some (s1.refuseFrame reason)
    | none => s1.openFrame w ((h.width.map BitVec.toNat).getD 0) ((h.height.map BitVec.toNat).getD 0)

/-! ## Control groups -/

/-- An accepted MARK (R34): FS 1, LE 2, FE 3; any other code fails the vote (R172). -/
def State.takeMark (s : State) (w : LaneWord) : Option State :=
  match wordCode w with
  | 1 => s.frameStart w
  | 2 =>
    match s.receiving with
    | some f => some (s.lineEnd f)
    | none => some s
  | 3 => some s.frameEnd
  | _ => some s.voteFailed

/-- A control group goes to the vote (R29). -/
def State.controlGroup (s : State) (ws : List LaneWord) : Option State :=
  match votedWord ws with
  | none => some s.voteFailed
  | some w => if wordKind w = .descriptor then some (s.takeDescriptor w) else s.takeMark w

/-- A lone control word outside a control group is one vote failure (R28). -/
def State.loneControl (s : State) (ws : List LaneWord) : State := if 1 ≤ controlCount ws then s.voteFailed else s

/-- The words of a group period are used (R28). -/
def State.useWords (s : State) (aligner : AlignerState) (v : PerLane (Option LaneWord)) : Option State :=
  let ws := wordList v
  match classify aligner ws with
  | .pixel => some ((s.loneControl ws).pixelGroup v)
  | .control => s.controlGroup ws
  | .idle => some (s.loneControl ws)
  | .unresolved => some (s.loneControl ws)

/-! ## A group period (R19) -/

def outcomes (d : PerLane Delivery) : PerLane LaneOutcome :=
  { a := outcomeOf d.a, b := outcomeOf d.b, c := outcomeOf d.c }

/-- What the outcomes feed (R19): the search run in SEARCH, held while the lane test is on; the counts in LOCKED and
DEGRADED; the rejoin run of an aligner that was DEGRADED when the group period began. -/
def State.takeOutcomes (s : State) (o : PerLane LaneOutcome) : State :=
  match s.lra.aligner with
  | .search => if s.lra.testOn then s else s.searchGroup o
  | .locked => s.countGroup o
  | .degraded => (s.countGroup o).rejoinGroup o

/-- While the lane test is on, each delivered word is checked (R41). -/
def State.testGroup (s : State) (d : PerLane Delivery) : State :=
  if s.lra.testOn then allLanes.foldl (State.testLane d) s else s

/-- One group period: the lane test, the outcomes, then the words if the aligner was and is out of SEARCH
(assumption log 9). -/
def State.closeGroup (s : State) (d : PerLane Delivery) : Option State :=
  let s1 := (s.testGroup d).takeOutcomes (outcomes d)
  if s.lra.aligner = .search ∨ s1.lra.aligner = .search then some s1
  else s1.useWords s.lra.aligner (s.votingWords d)

end Sys2Proof.Machine
end

