-- ==== Sys2Proof/Machine/LaneEvents.lean ====
section
/-! DEFINITION. The meanings of the reset pin and of the lane receiver's events: POWER_ON_RESET, GROUP_PERIOD,
LANE_QUIET, LANE_ACTIVITY. -/
namespace Sys2Proof.Machine

/-- The outcome of a command of this machine. -/
abbrev Result := Host.Outcome State Fault Refusal

/-- POWER_ON_RESET (R1, R162): every value of the part at its power-on value, the profile latched from the straps, relay
time at 0. The queue, the level of the PANEL READY pin and the count of free choices are not the part's own state. -/
def execPowerOnReset (straps : Fin 4) (s : State) : Result :=
  .next { State.powerOn straps with pending := s.pending, choices := s.choices, panelReady := s.panelReady }

/-- GROUP_PERIOD (R19). -/
def execGroupPeriod (e : Env) (d : PerLane Delivery) (s : State) : Result :=
  match (s.arrive e).closeGroup d with
  | some t => .next (t.settle (s.arrive e))
  | none => .fault .noSlotForFrame

/-- LANE_QUIET (R20). -/
def execLaneQuiet (e : Env) (l : Lane) (s : State) : Result :=
  .next (((s.arrive e).goQuiet l).settle (s.arrive e))

/-- LANE_ACTIVITY (R20). -/
def execLaneActivity (e : Env) (l : Lane) (s : State) : Result := .next ((s.arrive e).seeActivity l)

end Sys2Proof.Machine
end

