-- ==== Sys2Proof/Machine/MemoryEvents.lean ====
section
/-! DEFINITION. The meanings of the frame memory port's events: the four completions, the refresh timer, the wait
deadline, the entry into self-refresh and the exit deadline (chapter 8, section 7.4). An event whose transfer or
deadline is not there is no event (assumption log 3). -/
namespace Sys2Proof.Machine

/-- The staging write in progress completes (R137), if it is one. -/
def State.stagingWriteDone (s : State) : State :=
  match s.mpt.transfer with
  | some (.stagingWrite l a q) => (s.finishStagingWrite l a q).settle s
  | _ => s

/-- STAGING_WRITE_COMPLETION (R137). -/
def execStagingWriteCompletion (e : Env) (s : State) : Result := .next (s.arrive e).stagingWriteDone

/-- The scan read in progress completes (R138), if it is one. -/
def State.scanReadDone (s : State) : State :=
  match s.mpt.transfer with
  | some (.scanRead r a live) => (s.finishScanRead r a live).settleMemory
  | _ => s

/-- SCAN_READ_COMPLETION (R138). -/
def execScanReadCompletion (e : Env) (s : State) : Result := .next (s.arrive e).scanReadDone

/-- The capture read in progress completes (R139), if it is one. -/
def State.captureReadDone (s : State) : State :=
  match s.mpt.transfer with
  | some (.captureRead p r a w) => (s.finishCaptureRead p r a w).settleMemory
  | _ => s

/-- CAPTURE_READ_COMPLETION (R139). -/
def execCaptureReadCompletion (e : Env) (s : State) : Result := .next (s.arrive e).captureReadDone

/-- The refresh in progress completes (R135), if it is one. -/
def State.refreshDone (s : State) : State :=
  match s.mpt.transfer with
  | some .refresh => s.finishRefresh.settleMemory
  | _ => s

/-- REFRESH_COMPLETION (R135). -/
def execRefreshCompletion (e : Env) (s : State) : Result := .next (s.arrive e).refreshDone

/-- A refresh falls due while the timer runs: one more owed, up to 8 (R135). -/
def State.refreshFallsDue (s : State) : State :=
  if s.mpt.timerRunning then State.settleMemory { s with mpt.owed := satInc 8 s.mpt.owed } else s

/-- REFRESH_DUE (R135). -/
def execRefreshDue (e : Env) (s : State) : Result := .next (s.arrive e).refreshFallsDue

/-- A capture read still queued at its wait deadline ends CAPTURE_LATE (R140). -/
def State.waitReached (s : State) (p : Port) : State :=
  if s.captureQueued p && deadlineDue ((s.mpt.capture.get p).map (·.wait)) s.relayTime then
    (s.endCapture p .captureLate []).settleMemory
  else s

/-- WAIT_DEADLINE (R140). -/
def execWaitDeadline (e : Env) (p : Port) (s : State) : Result := .next ((s.arrive e).waitReached p)

/-- SELF_REFRESH_ENTRY (R130): the memory rests if every condition holds. -/
def execSelfRefreshEntry (e : Env) (s : State) : Result := .next (s.arrive e).settleMemory

/-- The exit deadline of a waking memory is reached (R131). -/
def State.exitReached (s : State) : State :=
  if s.mpt.power = .waking ∧ deadlineDue s.mpt.exitDeadline s.relayTime = true then s.memoryAwake.settleMemory
  else s

/-- MEMORY_EXIT_DEADLINE (R131). -/
def execMemoryExitDeadline (e : Env) (s : State) : Result := .next (s.arrive e).exitReached

end Sys2Proof.Machine
end

