-- ==== Sys2Proof/Machine/Views.lean ====
section
/-! DEFINITION. The bytes a port reads: the images of the regions and status views (chapter 13). The layouts of the
status views follow the rule of R175 (assumption log 14). -/
namespace Sys2Proof.Machine

/-! ## Field forms (R175) -/

/-- An optional field: a presence byte, then the value, 0 when absent. -/
def optBytes (n : Nat) (v : Option Nat) : List Byte :=
  match v with
  | some x => 1 :: beBytes n x
  | none => 0 :: beBytes n 0

def stampBytes (t : Stamp) : List Byte := beBytes 4 t.toNat

def optStamp (t : Option Stamp) : List Byte := optBytes 4 (t.map BitVec.toNat)

/-- A slot reference that may be none. -/
def optSlot (k : Option (Fin 5)) : List Byte := optBytes 1 (k.map (·.val))

def optDeadline (d : Option Deadline) : List Byte := optStamp (d.map Deadline.time)

/-- Every item of a list, one after another. -/
def forEach {α : Type} (xs : List α) (f : α → List Byte) : List Byte := xs.flatMap f

def allPorts : List Port := [.system, .link]

/-! ## Places of enumerated values, counting from 1 in the owning rule's list (R175) -/

def RelayState.place : RelayState → Byte
  | .idle => 1 | .border => 2 | .relaying => 3

def BorderReason.place : BorderReason → Byte
  | .none => 0 | .laneTest => 1 | .sourceAbsent => 2 | .noLock => 3 | .format => 4

/-- The frame mode in the relay and slot status views, where none reads 0; the encoding of R177 is the record view's
(DESIGN CHOICE, assumption log 30). -/
def modePlace : Option FrameMode → Byte
  | none => 0 | some .pass => 1 | some .whole => 2

def AlignerState.place : AlignerState → Byte
  | .search => 1 | .locked => 2 | .degraded => 3

def LaneState.place : LaneState → Byte
  | .active => 1 | .faulted => 2 | .quiet => 3

def AssemblyState.place : AssemblyState → Byte
  | .gap => 1 | .receiving => 2 | .discarding => 3


def SlotState.place : SlotState → Byte
  | .free => 1 | .filling => 2 | .draining => 3 | .complete => 4 | .short => 5

def ScanKind.place : ScanKind → Byte
  | .new => 1 | .repeat => 2 | .border => 3

def kindPlace : Option ScanKind → Byte
  | none => 0 | some k => k.place

def ScanOutState.place : ScanOutState → Byte
  | .quiet => 1 | .ready => 2 | .scanning => 3 | .holding => 4 | .waking => 5

def ScanEnding.place : ScanEnding → Byte
  | .closed => 1 | .aborted => 2

def HoldTrigger.place : HoldTrigger → Byte
  | .fs => 1 | .commit => 2 | .panelApply => 3 | .relayReset => 4

def wakePlace : Option WakeEnding → Byte
  | none => 0 | some .ready => 1 | some .late => 2 | some .reset => 3

def PowerState.place : PowerState → Byte
  | .active => 1 | .selfRefresh => 2 | .waking => 3

def transferPlace : Option Transfer → Byte
  | none => 0
  | some .refresh => 1
  | some (.scanRead _ _ _) => 2
  | some (.stagingWrite _ _ _) => 3
  | some (.captureRead _ _ _ _) => 4

def portByte (p : Port) : Byte := BitVec.ofNat 8 (portCode p)

/-- The port that a capture read in progress serves (R143): one byte, which reads 0 while none is in progress and has no
presence byte (DESIGN CHOICE, assumption log 30). -/
def transferPort : Option Transfer → Byte
  | some (.captureRead p _ _ _) => portByte p
  | _ => 0

/-- None, system port, link port, or both (R45): none reads 0, and the others count from 1 after it (DESIGN CHOICE,
assumption log 30). -/
def holderPlace (h : PerPort Bool) : Byte :=
  match h.system, h.link with
  | false, false => 0
  | true, false => 1
  | false, true => 2
  | true, true => 3

def SkipReason.place : SkipReason → Byte
  | .zeroSize => 1 | .offPanel => 2 | .badKind => 3 | .badBitmap => 4 | .extent => 5

/-! ## Preface fields in the encodings of R172 -/

/-- An unknown encoding shows a free byte other than the three that R172 names (assumption log 30). -/
def SampleFormat.code : SampleFormat → Byte
  | .rgb444 => 0 | .ycc444 => 1 | .ycc422 => 2 | .unknown => BitVec.ofNat 8 (3 + Config.unknownFormat % 253)

def RateMode.code : RateMode → Byte
  | .fixed => 0 | .variable => 1

/-! ## Contracts (R181) -/

def InputContract.bytes (c : InputContract) : List Byte :=
  beBytes 1 c.sliceHeight ++ beBytes 1 c.missLimit ++ beBytes 1 c.skewLimit ++ beBytes 1 c.depths.toNat

/-- A colour as three 16-bit components. -/
def rgbBytes (p : Rgb) : List Byte := beBytes 2 p.r.toNat ++ beBytes 2 p.g.toNat ++ beBytes 2 p.b.toNat

def PanelContract.bytes (c : PanelContract) : List Byte :=
  beBytes 2 c.pw ++ beBytes 2 c.ph ++ beBytes 4 c.tmin ++ beBytes 4 c.tmax ++ beBytes 4 c.span ++
  beBytes 2 c.guardTime ++ beBytes 1 c.lf ++ flagByte c.holdSupported ++ beBytes 4 c.idle ++ beBytes 4 c.grace ++
  beBytes 4 c.holdDelay ++ beBytes 2 c.x ++ beBytes 2 c.e ++ rgbBytes c.border ++ beBytes 2 c.memory

/-! ## Planes (R178) -/

def paletteBytes (e : PaletteEntry) : List Byte := rgbBytes e.color ++ [e.alpha, 0]

def Plane.bytes (p : Plane) : List Byte :=
  flagByte p.enable ++ [p.kind, p.alpha, 0] ++ beBytes 2 p.x.toNat ++ beBytes 2 p.y.toNat ++
  beBytes 2 p.width.toNat ++ beBytes 2 p.height.toNat ++ rgbBytes p.fill ++ beBytes 2 p.base.toNat ++
  beBytes 2 p.stride.toNat ++ [0, 0] ++ p.palette.toList.flatMap paletteBytes ++ List.replicate 8 0

/-! ## Event view and traps (R171, R179) -/

def trapBytes (t : Option Trap) : List Byte :=
  match t with
  | some t => [1] ++ flagByte t.further ++ [t.command] ++ beBytes 3 t.address.toNat ++ stampBytes t.time ++
      List.replicate 54 0
  | none => List.replicate 64 0

def bit (n : Nat) (b : Bool) : Nat := if b then 2 ^ n else 0

def CauseFlags.bytes (f : CauseFlags) : List Byte :=
  beBytes 1 (bit 0 f.pending + bit 1 f.repeated) ++ [0] ++ beBytes 2 f.detail.toNat

/-- The identification: cause number, flags and detail (R168). -/
def PortCtl.identBytes (p : PortCtl) : List Byte :=
  match p.named with
  | some c => beBytes 1 c.number ++ beBytes 1 (bit 0 (p.flags c).repeated + bit 1 p.frozen.isSome) ++
      beBytes 2 (p.flags c).detail.toNat
  | none => [0, 0, 0, 0]

def State.eventBytes (s : State) (p : Port) : List Byte :=
  let x := s.port p
  x.identBytes ++ beBytes 1 s.peu.profile.val ++ flagByte x.line ++ beBytes 2 x.enables.toNat ++
    forEach allCauses (fun c => (x.flags c).bytes) ++ trapBytes x.trap ++ List.replicate 136 0

/-! ## Pin region (R180) -/

def pinBytes (pin : Option Pin) : List Byte :=
  match pin with
  | some x => [1] ++ beBytes 1 x.slot.val ++ stampBytes x.arrival ++ beBytes 1 x.remaining
  | none => List.replicate 7 0

def State.pinRegionBytes (s : State) (p : Port) : List Byte :=
  s.store.expiry.get p :: pinBytes (s.store.pins.get p) ++ List.replicate 56 0

/-! ## Record view (R177) -/

def recordMode : Option FrameMode → Nat
  | some .whole => 1
  | _ => 0

def FrameRecord.presence (x : FrameRecord) : Nat :=
  bit 0 x.delivery.isSome + bit 1 x.lead.isSome + bit 2 x.presented.isSome

def FrameRecord.flags (x : FrameRecord) : Nat :=
  bit 0 x.short + bit 1 x.superseded + bit 2 x.concealed + bit 3 x.substituted

/-- Offsets 3 to 35 of a view that holds a record. -/
def FrameRecord.bytes (x : FrameRecord) : List Byte :=
  beBytes 1 x.presence ++ beBytes 2 x.sequence.toNat ++ beBytes 1 x.frameNumber.toNat ++ beBytes 1 x.slot.val ++
  beBytes 1 (recordMode x.mode) ++ beBytes 1 x.flags ++ stampBytes x.arrival ++ beBytes 4 (x.delivery.getD 0) ++
  beBytes 2 (x.lead.getD 0) ++ stampBytes ((x.presented.map (·.1)).getD 0) ++
  stampBytes ((x.presented.map (·.2)).getD 0) ++ beBytes 2 x.late ++ beBytes 2 x.damaged ++
  beBytes 2 x.concealedLines ++ beBytes 2 x.repeats

def RecordView.bytes (v : RecordView) : List Byte :=
  flagByte v.record.isSome ++ beBytes 1 v.lost ++ beBytes 1 v.unread ++
    match v.record with
    | some x => x.bytes
    | none => List.replicate 33 0

/-! ## Status views -/

/-- The relay status view (R2). The active contracts take as many bytes as R181 gives them fields, 4 and 44, one right
after the other, not the 64 bytes of the regions of the pending copies. While no panel contract is valid, its 44 bytes
read 0 (DESIGN CHOICE for both, assumption log 30). -/
def State.relayView (s : State) : List Byte :=
  [s.relay.state.place, s.relay.reason.place] ++ flagByte s.relay.graceFlag ++ [modePlace s.relay.lastMode] ++
  flagByte s.relay.waitingInput.isSome ++ flagByte s.relay.waitingPanel.isSome ++ beBytes 1 s.store.usable ++
  s.relay.input.bytes ++ s.contract.bytes

def LaneRec.bytes (x : LaneRec) : List Byte :=
  [x.state.place] ++ beBytes 1 x.missCount ++ beBytes 1 x.skewCount ++ flagByte x.activitySeen ++
    beBytes 1 x.rejoinRun

def optByte (b : Option Byte) : List Byte :=
  match b with
  | some x => [1, x]
  | none => [0, 0]

/-- The held preface, each field with its set or unset mark (R44). Flags are always set (R30). -/
def Preface.bytes (h : Preface) : List Byte :=
  optBytes 4 (h.width.map BitVec.toNat) ++ optBytes 4 (h.height.map BitVec.toNat) ++
  optByte (h.format.map SampleFormat.code) ++ optBytes 4 (h.depth.map BitVec.toNat) ++
  optByte (h.rate.map RateMode.code) ++ optBytes 4 (h.declared.map BitVec.toNat) ++ [1] ++ flagByte h.lowlag

def LaneRec.testBytes (x : LaneRec) : List Byte :=
  flagByte x.testSeen ++ flagByte x.testError ++ beBytes 2 x.testErrorCount

/-- The lane status view (R44). -/
def State.laneView (s : State) : List Byte :=
  [s.lra.aligner.place] ++ beBytes 1 s.lra.searchRun ++ forEach allLanes (fun l => (s.lane l).bytes) ++
  [s.lra.assembly.place] ++ beBytes 2 s.lra.linesDone ++ beBytes 2 s.lra.groupIndex ++ s.lra.preface.bytes ++
  beBytes 1 s.lra.staging.length ++ beBytes 4 s.lra.excessWords ++ beBytes 4 s.lra.excessLines ++
  flagByte s.lra.testOn ++ forEach allLanes (fun l => (s.lane l).testBytes)

def Slot.bytes (r : Slot) : List Byte :=
  [r.state.place] ++ beBytes 1 r.frameNumber.toNat ++ stampBytes r.arrival ++ [modePlace r.mode] ++
  beBytes 2 r.linesReceived ++ beBytes 2 r.concealedLines ++ beBytes 2 r.readyCount ++ beBytes 2 r.slices ++
  optStamp r.completion ++ optBytes 3 r.delivery ++ beBytes 1 r.newCount ++ beBytes 2 r.repeatCount ++
  flagByte r.superseded ++ flagByte r.recorded ++ flagByte r.underScan ++ [holderPlace r.pinHolders]

/-- What the end of R95 adds to the slot status view for one slot: the lead, the lag and the late-slice count. -/
def Slot.paceBytes (r : Slot) : List Byte :=
  optBytes 2 r.lead ++ optStamp r.lag ++ beBytes 2 r.lateSlices

/-- The slot status view (R70), with the figures that R95 places in it after R70's own items, for slots 0 to 4 (DESIGN
CHOICE, assumption log 36). -/
def State.slotView (s : State) : List Byte :=
  forEach s.store.slots.toList Slot.bytes ++ beBytes 1 s.store.usable ++ optSlot s.pacing.presented ++
  optSlot s.pacing.repeatSource ++ optSlot (s.sco.scan.bind (·.slot)) ++ optSlot (s.sco.scan.bind (·.fallback)) ++
  forEach s.store.slots.toList Slot.paceBytes

/-- A deadline shown as a relay time, 0 while it is not set. -/
def timeOrZero (d : Option Deadline) : List Byte := stampBytes ((d.map Deadline.time).getD 0)

def sourceOfQ (p : Pacing) : Byte :=
  match p.predicted with
  | none => 0
  | some _ => if p.predictedDeclared then 1 else 2

/-- The last open part of the pacing view (R95). Before the first open the three open figures read 0; P_last's presence
byte speaks for them (DESIGN CHOICE, assumption log 30). -/
def lastOpenBytes (o : Option LastOpen) : List Byte :=
  match o with
  | some o => optStamp (some o.time) ++ [o.kind.place] ++ beBytes 2 o.tmin ++ beBytes 3 o.tmax ++ beBytes 3 o.idle
  | none => optStamp none ++ List.replicate 9 0

/-- Which span the repeat deadline uses: Tmax 1, the idle interval 2; none while no deadline is set. -/
def State.spanPlace (s : State) : Byte :=
  if s.pacing.lastOpen = none then 0 else if s.usesIdle then 2 else 1

def intervalBytes (xs : List Nat) : List Byte :=
  beBytes 1 xs.length ++ forEach xs (beBytes 3) ++ List.replicate (3 * (8 - xs.length)) 0

/-- The pacing status view (R95). -/
def State.pacingView (s : State) : List Byte :=
  stampBytes s.relayTime ++ lastOpenBytes s.pacing.lastOpen ++ timeOrZero s.tminGate ++
  timeOrZero s.repeatDeadline ++ [s.spanPlace] ++ beBytes 1 s.pacing.planned.length ++
  timeOrZero s.pacing.planned.head? ++ beBytes 1 s.pacing.planM ++ beBytes 3 s.pacing.planR ++
  intervalBytes s.pacing.intervals ++ optBytes 3 s.pacing.predicted ++ [sourceOfQ s.pacing] ++
  beBytes 1 s.pacing.penalty ++ beBytes 1 s.pacing.clean ++ optBytes 3 s.pacing.referenceD

/-- The current scan of the scan status view (R109): all 0 while there is none. -/
def currentScanBytes (c : Option Scan) : List Byte :=
  match c with
  | some c => [c.kind.place] ++ optSlot c.slot ++ optSlot c.fallback ++ flagByte c.fallbackUsable ++
      stampBytes c.openTime ++ beBytes 2 c.nextLine ++ beBytes 2 c.late ++ beBytes 2 c.damaged ++
      beBytes 2 c.bordered
  | none => List.replicate 18 0

/-- The last scan of the scan status view (R109). Before the first, its kind reads none and the rest 0 (DESIGN CHOICE,
assumption log 30). -/
def lastScanBytes (x : Option LastScan) : List Byte :=
  match x with
  | some x => [x.kind.place] ++ optSlot x.slot ++ stampBytes x.openTime ++ [x.ending.place] ++ beBytes 2 x.late ++
      beBytes 2 x.damaged ++ beBytes 2 x.bordered ++ flagByte x.substituted
  | none => List.replicate 15 0

/-- The scan status view (R109). -/
def State.scanView (s : State) : List Byte :=
  [s.sco.state.place] ++ currentScanBytes s.sco.scan ++ lastScanBytes s.sco.lastScan

/-- The overlay status view (R119). The waiting flag is the presence byte of the waiting snapshot's number, which reads 0
while none waits (DESIGN CHOICE, assumption log 30). -/
def State.overlayView (s : State) : List Byte :=
  forEach s.ovl.active.toList Plane.bytes ++ flagByte s.ovl.waiting.isSome ++
  beBytes 2 ((s.ovl.waiting.map fun w => w.1.toNat).getD 0) ++ beBytes 2 s.ovl.commitNumber.toNat ++
  beBytes 1 s.ovl.replaced

/-- The wait deadline of the port's capture read, for as long as the read is in its queue (R139, R143). -/
def State.waitDeadlineOf (s : State) (p : Port) : Option Deadline := (s.mpt.capture.get p).map (·.wait)

/-- The memory port status view (R143). -/
def State.memPortView (s : State) : List Byte :=
  [s.mpt.power.place] ++ optDeadline s.mpt.exitDeadline ++ beBytes 1 s.mpt.owed ++
  [transferPlace s.mpt.transfer, transferPort s.mpt.transfer] ++ beBytes 2 s.mpt.scanReads.length ++
  flagByte (!s.lra.staging.isEmpty) ++
  forEach allPorts (fun p => flagByte (s.mpt.capture.get p).isSome ++ optDeadline (s.waitDeadlineOf p)) ++
  [portByte s.mpt.lastGranted]

def exitBytes (x : Option (Stamp × HoldTrigger)) : List Byte :=
  match x with
  | some x => optStamp (some x.1) ++ [x.2.place]
  | none => optStamp none ++ [0]

/-- The hold status view (R133). -/
def State.holdView (s : State) : List Byte :=
  [s.mpt.power.place] ++ optDeadline s.mpt.exitDeadline ++ optStamp s.pacing.holdReference ++
  optStamp s.sco.lastHoldEntry ++ exitBytes s.sco.lastHoldExit ++ optDeadline s.sco.wakeDeadline ++
  [wakePlace s.sco.lastWakeEnding]

/-- One port's part of the pin status view (R151). The pin-held flag is the one presence byte of slot, frame number, A
and remaining count (DESIGN CHOICE, assumption log 30). -/
def State.pinViewOf (s : State) (p : Port) : List Byte :=
  [s.store.expiry.get p] ++
  (match s.store.pins.get p with
    | some x => [1] ++ beBytes 1 x.slot.val ++ beBytes 1 (s.slot x.slot).frameNumber.toNat ++
        stampBytes x.arrival ++ beBytes 1 x.remaining
    | none => List.replicate 8 0) ++
  flagByte (s.mpt.capture.get p).isSome

def State.pinView (s : State) : List Byte := forEach allPorts s.pinViewOf ++ beBytes 1 s.pinLimit

/-- Outcome, reason, drawn width and drawn height of a plane (R119). The outcome says which of them apply; they have no
presence bytes, and those that do not apply read 0 (DESIGN CHOICE, assumption log 30). -/
def PlaneOutcome.bytes : PlaneOutcome → List Byte
  | .disabled => [1, 0, 0, 0, 0, 0]
  | .shown w h => [2, 0] ++ beBytes 2 w ++ beBytes 2 h
  | .clipped w h => [3, 0] ++ beBytes 2 w ++ beBytes 2 h
  | .skipped r => [4, r.place, 0, 0, 0, 0]

/-- The commit report (R119). Before the first installation the number's presence byte and every other byte but the
outcomes read 0 (DESIGN CHOICE, assumption log 30). -/
def reportBytes (x : Option CommitReport) : List Byte :=
  match x with
  | some x => optBytes 2 (some x.number.toNat) ++ beBytes 1 x.replaced ++ stampBytes x.openTime ++ [x.kind.place] ++
      beBytes 2 x.pw ++ beBytes 2 x.ph ++ forEach x.outcomes.toList PlaneOutcome.bytes
  | none => List.replicate 13 0 ++ forEach (List.replicate 8 PlaneOutcome.disabled) PlaneOutcome.bytes

def perLaneBytes (v : PerLane Nat) : List Byte := beBytes 4 v.a ++ beBytes 4 v.b ++ beBytes 4 v.c

/-- The counters view (R156). -/
def State.countersView (s : State) : List Byte :=
  let c := s.records.stats
  forEach [c.framesAccepted, c.supersededFrames, c.repeatScans, c.borderScans, c.lateSlices, c.damagedSlices,
    c.concealedLines, c.voteFailures, c.unknownDescriptors, c.sequenceGaps, c.stagingOverflow, c.correctable]
    (beBytes 4) ++ perLaneBytes c.misses ++ perLaneBytes c.skews ++ perLaneBytes c.faults

def State.viewBytes (s : State) : View → List Byte
  | .relay => s.relayView
  | .lane => s.laneView
  | .slot => s.slotView
  | .pacing => s.pacingView
  | .scan => s.scanView
  | .overlay => s.overlayView
  | .memPort => s.memPortView
  | .hold => s.holdView
  | .pin => s.pinView
  | .commitReport => reportBytes s.ovl.report
  | .counters => s.countersView

/-! ## Regions (R175) -/

/-- The fields of a region as bytes from its first byte on; beyond them it reads 0. The overlay memory has its own
read, and the capture window none (R160). -/
def State.regionFields (s : State) (p : Port) : Region → List Byte
  | .eventView => s.eventBytes p
  | .modeWord => [s.peu.modeWord]
  | .pendingInput => s.peu.pendingInput.bytes
  | .pendingPanel => s.peu.pendingPanel.bytes
  | .overlayList => forEach s.ovl.pendingList.toList Plane.bytes
  | .overlayMemory => []
  | .view v => s.viewBytes v
  | .trap q => trapBytes (s.port q).trap
  | .pinRegion => s.pinRegionBytes p
  | .recordView => (s.records.readers.get p).view.bytes
  | .captureWindow => []

/-- `n` bytes of a list from an offset on, 0 beyond its end. -/
def bytesFrom (image : List Byte) (off n : Nat) : List Byte :=
  let got := (image.drop off).take n
  got ++ List.replicate (n - got.length) 0

/-- `n` bytes of a region from an offset on, as they stand (R159). -/
def State.regionBytes (s : State) (p : Port) (r : Region) (off n : Nat) : List Byte :=
  match r with
  | .overlayMemory =>
    let got := readBytes s.ovl.memory off (min n (65536 - off))
    got ++ List.replicate (n - got.length) 0
  | r => bytesFrom ((s.regionFields p r).take r.size) off n

end Sys2Proof.Machine
end

