-- ==== Sys2Proof/Machine/Ports.lean ====
section
/-! DEFINITION. Port transactions: their end, denied accesses, reads, writes, capture reads (chapters 9 and 11). -/
namespace Sys2Proof.Machine

/-! ## The end of a transaction (R158) -/

/-- The transaction ends: its status is kept and the bytes shifted out are recorded. -/
def PortCtl.finish (x : PortCtl) (st : Status) (out : List Byte) : PortCtl :=
  { x with prevStatus := st, txn := none, dataOut := out }

/-- A transaction with its whole address ends: the previous status, three zero bytes, then `data` (R158). -/
def State.endTxn (s : State) (p : Port) (st : Status) (data : List Byte) : State :=
  s.setPort p ((s.port p).finish st ([(s.port p).prevStatus.code, 0, 0, 0] ++ data))

def zeros (n : Nat) : List Byte := List.replicate n 0

/-! ## Capture transactions (R160) -/

/-- The port's capture read leaves the memory port without a result (R160): a queued read is withdrawn. A granted one
completes with its data discarded, and leaves its port's queue here, at the release, so that the port can queue another
read (DESIGN CHOICE, assumption log 32: R139 has it leave at its completion). -/
def State.withdrawCapture (s : State) (p : Port) : State :=
  { s with
    mpt.capture := s.mpt.capture.set p none
    mpt.transfer := match s.mpt.transfer with
      | some (.captureRead q r a w) => some (.captureRead q r a (if q = p then false else w))
      | t => t }

/-- The capture start byte. -/
def startByte : Byte := 0xA5

/-- What `count` bytes clocked after the address show: fillers, the start byte, the data, then zeros. -/
def captureOut (fillers count : Nat) (data : List Byte) : List Byte :=
  (zeros fillers ++ startByte :: data ++ zeros count).take count

/-- The select line of an open capture transaction is released (R160). With none open, as after a power-on reset that
dropped it (assumption log 44), nothing ends. -/
def State.releaseSelect (s : State) (p : Port) (fillers count : Nat) : State :=
  match (s.port p).txn with
  | none => s
  | some .waiting => ((s.withdrawCapture p).endTxn p .captureLate (zeros count)).settleMemory
  | some (.ready st data) => s.endTxn p st (captureOut fillers count data)

/-- A new transaction on a port whose capture transaction is still open ends that one first (assumption log 16). -/
def State.beginTxn (s : State) (p : Port) : State := s.releaseSelect p 0 0

/-! ## Denied accesses (R164) -/

/-- A denial reaches the port's trap. -/
def PortCtl.trapDenial (x : PortCtl) (command : Byte) (address : BitVec 24) (now : Stamp) : PortCtl :=
  { x with trap := match x.trap with
      | none => some { command := command, address := address, time := now, further := false }
      | some t => some { t with further := true } }

/-- A denied access: trapped, ACCESS_DENIED raised, the transaction ends DENIED with zeros. -/
def State.deny (s : State) (p : Port) (command : Byte) (address : BitVec 24) (count : Nat) : State :=
  let s1 := s.setPort p ((s.port p).trapDenial command address s.relayTime)
  (s1.raise .accessDenied (causeDetail 0 (portCode p))).endTxn p .denied (zeros count)

/-! ## Capture reads (R149, R160) -/

/-- A capture read that passes the check is queued, wakes the memory, and its transaction waits (R149). -/
def State.queueCapture (s : State) (p : Port) (r : CaptureRead) : State :=
  let s1 := { s with mpt.capture := s.mpt.capture.set p (some r) }
  let s2 := s1.wakeMemory
  State.settleMemory (s2.setPort p { s2.port p with txn := some .waiting })

/-- The capture read of pixels x on of line y of a pinned frame (R149). -/
def Pin.captureRead (x : Pin) (width line first : Nat) (now : Stamp) : CaptureRead :=
  { slot := x.slot, arrival := x.arrival, line := line, first := first, count := min 640 (width - first),
    wait := { origin := now, span := 500 } }

/-- A READ in the capture window, at an offset into it. -/
def State.takeCapture (s : State) (p : Port) (off count : Nat) : State :=
  if s.hasRight p .pin = false then s.deny p cmdRead (BitVec.ofNat 24 (0x800000 + off)) count
  else match s.store.pins.get p with
    | none => s.endTxn p .noPin (captureOut 0 count [])
    | some x =>
      let r := s.slot x.slot
      if off / 3840 < r.height ∧ off % 3840 < r.width then
        s.queueCapture p (x.captureRead r.width (off / 3840) (off % 3840) s.relayTime)
      else s.endTxn p .badAddress (captureOut 0 count [])

/-! ## Reads (R159, R168) -/

/-- A READ that starts in the identification freezes it. -/
def State.freezeOnRead (s : State) (p : Port) (r : Region) (off : Nat) : State :=
  if r = .eventView ∧ off < 4 then s.setPort p (s.port p).freeze else s

/-- The status of an access to `n` bytes at an offset of a region (R159). -/
def accessStatus (r : Region) (off n : Nat) : Status := if off + n ≤ r.size then .ok else .badAddress

/-- A READ of a region other than the capture window. -/
def State.readRegion (s : State) (p : Port) (addr : BitVec 24) (r : Region) (off count : Nat) : State :=
  if s.mayRead p r then
    (s.freezeOnRead p r off).endTxn p (accessStatus r off count) (s.regionBytes p r off count)
  else s.deny p cmdRead addr count

/-- A READ at an address (R159, R160). -/
def State.takeRead (s : State) (p : Port) (addr : BitVec 24) (count : Nat) : State :=
  match regionOf addr.toNat with
  | none => s.endTxn p .badAddress (zeros count)
  | some (.captureWindow, off) => s.takeCapture p off count
  | some (r, off) => s.readRegion p addr r off count

/-! ## The relay mode word (R163, R176) -/

def modeFields : List Byte := [0x03, 0x04, 0x08, 0x10, 0x20, 0x40]

/-- The field would receive a reserved encoding: LOWLAG_POLICY 3. -/
def reservedField (f merged : Byte) : Bool := decide (f = 0x03) && decide (merged &&& 0x03 = 0x03)

/-- The selected field takes its new value: owned, and the encoding valid. -/
def fieldTakes (owned f merged : Byte) : Bool := decide (owned &&& f ≠ 0) && !reservedField f merged

/-- One field of the word after a masked write: its bits of the new or of the old word. -/
def fieldAfter (owned old mask merged f : Byte) : Byte :=
  if mask &&& f ≠ 0 ∧ fieldTakes owned f merged then merged &&& f else old &&& f

/-- The word after a masked write, field by field. -/
def modeWordAfter (owned old mask value : Byte) : Byte :=
  modeFields.foldl (fun acc f => acc ||| fieldAfter owned old mask (mergeByte old mask value) f) 0

/-- No field was selected, or a selected one was left unchanged: PARTIAL. -/
def modeWritePartial (owned old mask value : Byte) : Bool :=
  modeFields.all (fun f => decide (mask &&& f = 0)) ||
    modeFields.any fun f => decide (mask &&& f ≠ 0) && !fieldTakes owned f (mergeByte old mask value)

/-- The new word is in force; clearing CONCEAL_PERMIT in DEGRADED is a loss of lock (R17). -/
def State.setModeWord (s : State) (w : Byte) : State :=
  let s1 := { s with peu.modeWord := w }
  if s.concealPermit && !s1.concealPermit && decide (s.lra.aligner = .degraded) then s1.loseLock.settle s
  else s1

/-- A write to the relay mode word by a port that owns fields of it. Only its first pair reaches the word. -/
def State.writeModeWord (s : State) (p : Port) (ps : List (Byte × Byte)) : State × Status :=
  let owned := ownedMask s.peu.profile p
  let pair := ps.headD (0, 0)
  (s.setModeWord (modeWordAfter owned s.peu.modeWord pair.1 pair.2),
    if 1 < ps.length then .badAddress
    else if modeWritePartial owned s.peu.modeWord pair.1 pair.2 then .partialWrite else .ok)

/-! ## Writes to the other regions (R111, R144, R159, R167) -/

def InputContract.ofBytes (b : List Byte) : InputContract :=
  { sliceHeight := fieldAt b 0 1, missLimit := fieldAt b 1 1, skewLimit := fieldAt b 2 1,
    depths := BitVec.ofNat 3 (fieldAt b 3 1) }

/-- A colour from three 16-bit components; the top 4 bits of each are ignored. -/
def rgbOfBytes (b : List Byte) (off : Nat) : Rgb :=
  { r := BitVec.ofNat 12 (fieldAt b off 2), g := BitVec.ofNat 12 (fieldAt b (off + 2) 2),
    b := BitVec.ofNat 12 (fieldAt b (off + 4) 2) }

def PanelContract.ofBytes (b : List Byte) : PanelContract :=
  { pw := fieldAt b 0 2, ph := fieldAt b 2 2, tmin := fieldAt b 4 4, tmax := fieldAt b 8 4, span := fieldAt b 12 4,
    guardTime := fieldAt b 16 2, lf := fieldAt b 18 1, holdSupported := decide (fieldAt b 19 1 % 2 = 1),
    idle := fieldAt b 20 4, grace := fieldAt b 24 4, holdDelay := fieldAt b 28 4, x := fieldAt b 32 2,
    e := fieldAt b 34 2, border := rgbOfBytes b 36, memory := fieldAt b 42 2 }

def paletteOfBytes (b : List Byte) (off : Nat) : PaletteEntry :=
  { color := rgbOfBytes b off, alpha := BitVec.ofNat 8 (fieldAt b (off + 6) 1) }

/-- A plane record from its bytes (R178). Bits 1 to 7 of the Enable byte and the top 4 bits of x, y, width and height are
ignored and read 0 (DESIGN CHOICE, assumption log 35). -/
def Plane.ofBytes (b : List Byte) : Plane :=
  { enable := decide (fieldAt b 0 1 % 2 = 1), kind := BitVec.ofNat 8 (fieldAt b 1 1),
    alpha := BitVec.ofNat 8 (fieldAt b 2 1), x := BitVec.ofNat 12 (fieldAt b 4 2),
    y := BitVec.ofNat 12 (fieldAt b 6 2), width := BitVec.ofNat 12 (fieldAt b 8 2),
    height := BitVec.ofNat 12 (fieldAt b 10 2), fill := rgbOfBytes b 12, base := BitVec.ofNat 16 (fieldAt b 18 2),
    stride := BitVec.ofNat 16 (fieldAt b 20 2),
    palette := Vector.ofFn fun i => paletteOfBytes b (24 + 8 * i.val) }

/-- The eight planes of a 512-byte image. -/
def planesOfBytes (b : List Byte) : Vector Plane 8 :=
  Vector.ofFn fun i => Plane.ofBytes ((b.drop (64 * i.val)).take 64)

/-- Pairs over overlay memory from an offset on; those beyond its end are discarded. -/
def writeOverlay (m : Memory) (off : Nat) (ps : List (Byte × Byte)) : Memory :=
  writeBytes m off (mergeBytes (readBytes m off (min ps.length (65536 - off))) ps)

/-- The enables after a write from byte 6 + `off` of the event view on. -/
def enablesAfter (old : BitVec 12) (off : Nat) (ps : List (Byte × Byte)) : BitVec 12 :=
  BitVec.ofNat 12 (beValue (mergeAt (beBytes 2 old.toNat) off ps))

/-- A permitted write to a region with named fields or to overlay memory. -/
def State.writeRegion (s : State) (p : Port) (r : Region) (off : Nat) (ps : List (Byte × Byte)) : State :=
  match r with
  | .eventView => s.setPort p { s.port p with enables := enablesAfter (s.port p).enables (off - 6) ps }
  | .pendingInput =>
    { s with peu.pendingInput := InputContract.ofBytes (mergeAt s.peu.pendingInput.bytes off ps) }
  | .pendingPanel =>
    { s with peu.pendingPanel := PanelContract.ofBytes (mergeAt s.peu.pendingPanel.bytes off ps) }
  | .overlayList =>
    { s with ovl.pendingList := planesOfBytes (mergeAt (forEach s.ovl.pendingList.toList Plane.bytes) off ps) }
  | .overlayMemory => { s with ovl.memory := writeOverlay s.ovl.memory off ps }
  | .pinRegion =>
    { s with store.expiry := s.store.expiry.set p ((mergeAt [s.store.expiry.get p] off ps).headD 0) }
  | .modeWord => s
  | .view _ => s
  | .trap _ => s
  | .recordView => s
  | .captureWindow => s

def writeCommand (masked : Bool) : Byte := if masked then cmdMaskedWrite else cmdWrite

def writePairs (masked : Bool) (data : List Byte) : List (Byte × Byte) :=
  if masked then maskedPairs data else plainPairs data

/-- A WRITE or MASKED_WRITE of `data` at an address (R159, R163, R164). A last pair of a MASKED_WRITE that is not complete
reaches no byte, so it neither runs past the region nor is denied (DESIGN CHOICE, assumption log 34). -/
def State.takeWrite (s : State) (p : Port) (masked : Bool) (addr : BitVec 24) (data : List Byte) : State :=
  let ps := writePairs masked data
  match regionOf addr.toNat with
  | none => s.endTxn p .badAddress (zeros data.length)
  | some (r, off) =>
    if s.mayWrite p r off ps.length = false then s.deny p (writeCommand masked) addr data.length
    else if r = .modeWord then
      let w := s.writeModeWord p ps
      w.1.endTxn p w.2 (zeros data.length)
    else (s.writeRegion p r off ps).endTxn p (accessStatus r off ps.length) (zeros data.length)

/-! ## Requests (R161) -/

/-- A request with the right it needs; without it nothing changes and the status is NOT_PERMITTED. Its data bytes are
ignored, and a 0 is shifted out for each. -/
def State.request (s : State) (p : Port) (right : Right) (data : List Byte) (act : State → State × Status) : State :=
  if s.hasRight p right then
    let r := act s
    r.1.endTxn p r.2 (zeros data.length)
  else s.endTxn p .notPermitted (zeros data.length)

/-- A transaction that makes no command: only its bytes out and its status count (R158, R161). -/
def State.endBad (s : State) (p : Port) (st : Status) (count : Nat) : State :=
  s.setPort p ((s.port p).finish st (((s.port p).prevStatus.code :: zeros count).take count))

end Sys2Proof.Machine
end

