-- ==== Sys2Proof/Machine/Requests.lean ====
section
/-! DEFINITION. What each request does at the block that owns it, once the port has the right (R161): the state after it
and the answer. What follows from the effect (`settle`) is part of it. -/
namespace Sys2Proof.Machine

/-! ## Contract applies (R6, R7, R10, R11) -/

/-- The boundaries at which a waiting input apply takes effect at the request itself (R7). -/
def State.inputAppliesNow (s : State) : Bool :=
  decide (s.lra.aligner = .search) || s.lra.testOn || s.receiving.isNone

def State.requestInput (s : State) : State × Status :=
  if s.relay.waitingInput.isSome then (s, .waiting)
  else if s.peu.pendingInput.valid = false then (s, .invalid)
  else
    let s1 := { s with relay.waitingInput := some s.peu.pendingInput }
    (if s.inputAppliesNow then s1.applyInputNow.settle s else s1, .ok)

/-- The first contract takes effect: the relay leaves IDLE, the scan-out becomes READY and a scan opens at once (R11,
R93). -/
def State.leaveIdle (s : State) : State :=
  let s1 := s.installPanel.reevaluate
  State.openScan { s1 with sco.state := .ready }

/-- A hold exit trigger with what follows it; nothing while the scan-out does not hold (R127). -/
def State.triggerExit (s : State) (t : HoldTrigger) : State :=
  if s.sco.state = .holding then (s.exitHold t).settle s else s

def State.requestPanel (s : State) : State × Status :=
  if s.relay.waitingPanel.isSome then (s, .waiting)
  else if s.peu.pendingPanel.valid = false then (s, .invalid)
  else
    let s1 := { s with relay.waitingPanel := some s.peu.pendingPanel }
    (if s.relay.state = .idle then s1.leaveIdle.settle s else s1.triggerExit .panelApply, .ok)

/-! ## Overlay commit (R114, R115) -/

def State.requestCommit (s : State) : State × Status :=
  let n := s.ovl.commitNumber + 1
  let s1 := { s with
    ovl.commitNumber := n
    ovl.waiting := some (n, s.ovl.pendingList)
    ovl.replaced := if s.ovl.waiting.isSome then satInc 255 s.ovl.replaced else s.ovl.replaced }
  (s1.triggerExit .commit, .ok)

/-! ## Pins (R145, R147) -/

/-- The count a pin starts with. -/
def State.pinStart (s : State) (p : Port) : Nat := max 1 (s.store.expiry.get p).toNat

/-- The pin is granted on slot k. -/
def State.grantPin (s : State) (p : Port) (k : Fin 5) : State :=
  let x : Pin := { slot := k, arrival := (s.slot k).arrival, remaining := s.pinStart p }
  let s1 := s.setPinHolder k p true
  { s1 with store.pins := s1.store.pins.set p (some x) }

def State.requestPin (s : State) (p : Port) : State × Status :=
  if (s.store.pins.get p).isSome then (s, .pinHeld)
  else if s.pinLimit < s.pinsHeld + 1 then (s, .noRoom)
  else match s.newestComplete with
    | none => (s, .notReady)
    | some k => (s.grantPin p k, .ok)

def State.requestRelease (s : State) (p : Port) : State × Status :=
  if (s.store.pins.get p).isSome then (s.dropPin p, .ok) else (s, .pinNotHeld)

/-! ## Aligner and lane test (R27, R40, R42) -/

def State.requestRealign (s : State) : State × Status := ((s.enterSearch LaneRec.activate).settle s, .ok)

/-- LANE_TEST_ON: the frame is cut and SEARCH entered, results cleared, the flag set and the relay state re-evaluated. -/
def State.requestTestOn (s : State) : State × Status :=
  let s1 := s.enterSearch LaneRec.activate
  ((State.reevaluate { s1.mapLanes LaneRec.startTest with lra.testOn := true }).settle s, .ok)

def State.requestTestOff (s : State) : State × Status :=
  (if s.lra.testOn then State.reevaluate { s.restartSearch with lra.testOn := false } else s, .ok)

/-! ## Relay reset (R18, R43, R68, R94, R108, R133, R142, R157) -/

/-- The scan-out at a relay reset (R108). -/
def State.abortScanOut (s : State) : State :=
  match s.sco.state with
  | .quiet => s
  | .ready => s
  | .scanning =>
    match s.sco.scan with
    | some c => (s.send .scanAbort).endScan c .aborted
    | none => s
  | .holding =>
    State.wakeMemory { s.send .holdExit with
      sco.state := .ready
      sco.lastHoldExit := some (s.relayTime, .relayReset)
      sco.lastWakeEnding := some .reset }
  | .waking =>
    { s with sco.state := .ready, sco.wakeDeadline := none, sco.lastWakeEnding := some .reset }

/-- The frame store at a relay reset: every slot FREE, every pin gone without a cause (R68, R148). -/
def State.resetStore (s : State) : State :=
  State.dropCaptures { s with
    store.slots := Vector.replicate 5 Slot.reset
    store.pins := { system := none, link := none } }

/-- The lane receiver and aligner at a relay reset (R43). -/
def State.resetLra (s : State) : State :=
  let s1 := (s.mapLanes fun x => x.activate.clearRuns).emptyStaging
  { s1 with
    lra.aligner := .search, lra.searchRun := 0, lra.assembly := .gap, lra.frame := none, lra.lineBuffer := []
    lra.testOn := false, lra.excessWords := 0, lra.excessLines := 0, lra.prevFrameNumber := none }

/-- The pacing engine at a relay reset (R72, R94), with the hold reference stamp (R123). -/
def State.resetPacing (s : State) : State :=
  { s.clearPlanned with
    pacing.intervals := [], pacing.prevArrival := none, pacing.prevSize := none, pacing.predicted := none
    pacing.predictedDeclared := false, pacing.penalty := 0, pacing.clean := 0, pacing.referenceD := none
    pacing.presented := none, pacing.repeatSource := none, pacing.holdReference := some s.relayTime }

/-- The relay controller at a relay reset (R18). -/
def State.resetRelay (s : State) : State :=
  State.reevaluate { s with
    relay.waitingInput := none, relay.waitingPanel := none, relay.refused := false, relay.graceFlag := false
    relay.graceEnd := none, relay.lastMode := none, relay.lastAccepted := none }

/-- The record unit at a relay reset (R157). -/
def State.resetRecords (s : State) : State := { s with records.repeatTally := 0, records.stats := Stats.reset }

/-- A repeat deadline that passed while the panel held is reached as the scan-out becomes READY (R127). The same is taken of
one that passed in a wake, or that is due as the reset aborts a scan: a BORDER scan opens at the reset itself (DESIGN CHOICE,
assumption log 38; R108 and R94 give the abort and the deadline, and no order between them). -/
def State.deadlineAtReady (s before : State) : State :=
  if before.sco.state ≠ .ready ∧ s.sco.state = .ready ∧ s.repeatDue = true then
    s.holdOrOpen
  else s

def State.requestReset (s : State) : State × Status :=
  let s1 := s.abortScanOut.resetStore.resetLra.resetPacing.resetRecords.resetRelay
  ((s1.deadlineAtReady s).settle s, .ok)

/-! ## Records (R154) -/

def State.requestRecord (s : State) (p : Port) : State × Status :=
  ({ s with records.readers := s.records.readers.set p ((s.records.readers.get p).next s.records.ring) }, .ok)

/-! ## Causes (R161, R169, R170) -/

/-- ACK_CAUSE and SET_CAUSE: a missing byte or one that names no cause gives BAD_COMMAND; otherwise the events right is
needed. The first data byte is the cause's number, and any more are ignored (DESIGN CHOICE, assumption log 33). -/
def State.causeRequest (s : State) (p : Port) (data : List Byte) (f : PortCtl → Cause → PortCtl) : State :=
  match data.head?.bind fun b => causeOfNumber b.toNat with
  | none => s.endTxn p .badCommand (zeros data.length)
  | some c =>
    if s.hasRight p .events then (s.setPort p (f (s.port p) c)).endTxn p .ok (zeros data.length)
    else s.endTxn p .notPermitted (zeros data.length)

end Sys2Proof.Machine
end

