-- ==== Sys2Proof/Machine/PortCommands.lean ====
section
/-! DEFINITION. The meanings of the port transactions: reads, writes, capture reads, the twelve requests, and
transactions that make no command (chapter 11). -/
namespace Sys2Proof.Machine

/-- A transaction begins on port p at the time the command gives. -/
def State.openPort (s : State) (e : Env) (p : Port) : State := (s.arrive e).beginTxn p

/-- READ (R159). -/
def execRead (e : Env) (p : Port) (addr : BitVec 24) (count : Nat) (s : State) : Result :=
  .next ((s.openPort e p).takeRead p addr count)

/-- WRITE (R159). -/
def execWrite (e : Env) (p : Port) (addr : BitVec 24) (data : List Byte) (s : State) : Result :=
  .next ((s.openPort e p).takeWrite p false addr data)

/-- MASKED_WRITE (R159). -/
def execMaskedWrite (e : Env) (p : Port) (addr : BitVec 24) (data : List Byte) (s : State) : Result :=
  .next ((s.openPort e p).takeWrite p true addr data)

/-- RELAY_MODE_WORD_WRITE (R163). -/
def execRelayModeWordWrite (e : Env) (p : Port) (masked : Bool) (data : List Byte) (s : State) : Result :=
  .next ((s.openPort e p).takeWrite p masked 0x001000 data)

/-- ENABLES_WRITE (R167), from byte 6 or 7 of the event view on. -/
def execEnablesWrite (e : Env) (p : Port) (masked second : Bool) (data : List Byte) (s : State) : Result :=
  .next ((s.openPort e p).takeWrite p masked (if second then 0x000007 else 0x000006) data)

/-- IDENTIFICATION_READ (R168). -/
def execIdentificationRead (e : Env) (p : Port) (offset : Fin 4) (count : Nat) (s : State) : Result :=
  .next ((s.openPort e p).takeRead p (BitVec.ofNat 24 offset.val) count)

/-- CAPTURE_WINDOW_READ (R149, R160). -/
def execCaptureWindowRead (e : Env) (p : Port) (offset : BitVec 23) (count : Nat) (s : State) : Result :=
  .next ((s.openPort e p).takeCapture p offset.toNat count)

/-- SELECT_RELEASE (R160). -/
def execSelectRelease (e : Env) (p : Port) (fillers count : Nat) (s : State) : Result :=
  .next ((s.arrive e).releaseSelect p fillers count)

/-- APPLY_INPUT (R6). -/
def execApplyInput (e : Env) (r : PortRequest) (s : State) : Result :=
  .next ((s.openPort e r.port).request r.port .input r.data State.requestInput)

/-- APPLY_PANEL (R10). -/
def execApplyPanel (e : Env) (r : PortRequest) (s : State) : Result :=
  .next ((s.openPort e r.port).request r.port .panel r.data State.requestPanel)

/-- COMMIT_OVERLAY (R114). -/
def execCommitOverlay (e : Env) (r : PortRequest) (s : State) : Result :=
  .next ((s.openPort e r.port).request r.port .overlay r.data State.requestCommit)

/-- PIN (R145). -/
def execPin (e : Env) (r : PortRequest) (s : State) : Result :=
  .next ((s.openPort e r.port).request r.port .pin r.data fun t => t.requestPin r.port)

/-- RELEASE (R147). -/
def execRelease (e : Env) (r : PortRequest) (s : State) : Result :=
  .next ((s.openPort e r.port).request r.port .pin r.data fun t => t.requestRelease r.port)

/-- REALIGN (R27). -/
def execRealign (e : Env) (r : PortRequest) (s : State) : Result :=
  .next ((s.openPort e r.port).request r.port .input r.data State.requestRealign)

/-- RELAY_RESET (R18). -/
def execRelayReset (e : Env) (r : PortRequest) (s : State) : Result :=
  .next ((s.openPort e r.port).request r.port .relayReset r.data State.requestReset)

/-- NEXT_RECORD (R154). -/
def execNextRecord (e : Env) (r : PortRequest) (s : State) : Result :=
  .next ((s.openPort e r.port).request r.port .records r.data fun t => t.requestRecord r.port)

/-- ACK_CAUSE (R169). -/
def execAckCause (e : Env) (p : Port) (data : List Byte) (s : State) : Result :=
  .next ((s.openPort e p).causeRequest p data PortCtl.ack)

/-- SET_CAUSE (R170): entered into this port's set alone, with the detail TEST. -/
def execSetCause (e : Env) (p : Port) (data : List Byte) (s : State) : Result :=
  .next ((s.openPort e p).causeRequest p data fun x c => x.enter c testDetail)

/-- LANE_TEST_ON (R40). -/
def execLaneTestOn (e : Env) (r : PortRequest) (s : State) : Result :=
  .next ((s.openPort e r.port).request r.port .input r.data State.requestTestOn)

/-- LANE_TEST_OFF (R42). -/
def execLaneTestOff (e : Env) (r : PortRequest) (s : State) : Result :=
  .next ((s.openPort e r.port).request r.port .input r.data State.requestTestOff)

/-- BAD_COMMAND_TRANSACTION (R158, R161): bytes that make no command give BAD_COMMAND, and a REQUEST address that names
no request gives BAD_ADDRESS. Bytes that spell a command of another row are that row's transaction, not this one's. -/
def execBadCommandTransaction (e : Env) (p : Port) (bytes : List Byte) (s : State) : Result :=
  .next (if badCommandBytes bytes then (s.openPort e p).endBad p .badCommand bytes.length
    else if unknownRequestBytes bytes then (s.openPort e p).endBad p .badAddress bytes.length
    else s.arrive e)

end Sys2Proof.Machine
end

