-- ==== Sys2Proof/Machine/ScanEvents.lean ====
section
/-! DEFINITION. The meanings of the pacing engine's and the scan-out's events: deadlines reached, panel lines, the close,
the PANEL READY pin (chapters 1, 4, 5 and 7). A reach whose deadline is not set or not yet due is no event (assumption
log 3). -/
namespace Sys2Proof.Machine

/-- The lead gate of the frame in slot k is due and its reach not yet taken. -/
def State.leadDue (s : State) (k : Fin 5) : Bool :=
  decide ((s.slot k).state ≠ .free) && deadlineDue (s.slot k).leadGate s.relayTime && !(s.slot k).leadReached

def State.leadTaken (s : State) (k : Fin 5) : State :=
  if s.leadDue k then (s.modSlot k fun r => { r with leadReached := true }).settle s else s

/-- LEAD_GATE (R83). -/
def execLeadGate (e : Env) (k : Fin 5) (s : State) : Result := .next ((s.arrive e).leadTaken k)

/-- The Tmin gate is due and its reach can be taken: a repeat that waits for it needs the scan-out free. -/
def State.tminDue (s : State) : Bool :=
  decide (s.relay.state ≠ .idle) && !s.pacing.tminReached && deadlineDue s.tminGate s.relayTime &&
    !(s.pacing.waitingRepeat && decide (s.sco.state = .scanning))

/-- A repeat, or a wake's open, that waited for the gate: at its reach the hold entry conditions are checked again (R124),
and if they do not hold a scan opens (R90). -/
def State.openWaiting (s : State) : State :=
  if s.pacing.waitingRepeat then
    let s1 := { s with pacing.waitingRepeat := false }
    if s1.sco.state = .ready then s1.holdOrOpen else s1
  else s

def State.tminTaken (s : State) : State :=
  if s.tminDue then
    (State.openWaiting { s with pacing.tminReached := true }).settle s
  else s

/-- TMIN_GATE (R84). -/
def execTminGate (e : Env) (s : State) : Result := .next (s.arrive e).tminTaken

/-- The repeat deadline is reached with the scan-out READY: hold, or a scan (R85). -/
def State.repeatTaken (s : State) : State :=
  if s.relay.state ≠ .idle ∧ s.sco.state = .ready ∧ s.repeatDue = true then
    s.holdOrOpen.settle s
  else s

/-- REPEAT_DEADLINE (R85). -/
def execRepeatDeadline (e : Env) (s : State) : Result := .next (s.arrive e).repeatTaken

/-- The first planned repeat can be taken: due, and the scan-out READY, or SCANNING while the repeat would wait. -/
def State.plannedDue (s : State) : Bool :=
  decide (s.relay.state ≠ .idle) && deadlineDue s.pacing.planned.head? s.relayTime &&
    (decide (s.sco.state = .ready) || (decide (s.sco.state = .scanning) && !s.pacing.tminReached))

/-- A planned repeat that has left the list: hold, or a scan, or wait for the gate (R90). -/
def State.takePlanned (s : State) : State :=
  if s.mayHold then s.enterHold
  else if s.pacing.tminReached then s.openScan
  else { s with pacing.waitingRepeat := true }

def State.plannedTaken (s : State) : State :=
  if s.plannedDue then
    (State.takePlanned { s with pacing.planned := s.pacing.planned.drop 1 }).settle s
  else s

/-- PLANNED_REPEAT (R90). -/
def execPlannedRepeat (e : Env) (s : State) : Result := .next (s.arrive e).plannedTaken

/-- Grace expires (R4, R91): the flag cleared, the planned repeats emptied; the deadline's new span follows (R92). -/
def State.graceTaken (s : State) : State :=
  if s.relay.graceFlag ∧ deadlineDue s.relay.graceEnd s.relayTime = true then
    State.settle { s.clearPlanned with relay.graceFlag := false, relay.graceEnd := none } s
  else s

/-- GRACE_EXPIRY (R4). -/
def execGraceExpiry (e : Env) (s : State) : Result := .next (s.arrive e).graceTaken

/-- The scan reaches its next panel line (R98), if it is due. -/
def State.lineTaken (s : State) : State :=
  match s.sco.scan with
  | some c =>
    if c.nextLine < c.ph ∧ (c.lineDeadline c.nextLine).due s.relayTime = true then s.drawNext.settle s else s
  | none => s

/-- SCAN_LINE (R98). -/
def execScanLine (e : Env) (s : State) : Result := .next (s.arrive e).lineTaken

/-- The scan reaches its close (R106), if every line is drawn and the close is due. -/
def State.closeTaken (s : State) : State :=
  match s.sco.scan with
  | some c =>
    if c.nextLine = c.ph ∧ c.closeDeadline.due s.relayTime = true then (s.closeScan c).settle s else s
  | none => s

/-- SCAN_CLOSE (R106). -/
def execScanClose (e : Env) (s : State) : Result := .next (s.arrive e).closeTaken

/-- The PANEL READY pin rises; a wake in progress completes (R128). -/
def State.panelRises (s : State) : State :=
  let s1 := { s with panelReady := true }
  if s.sco.state = .waking then (s1.completeWake .ready).settle s else s1

/-- PANEL_READY_RISE (R128). -/
def execPanelReadyRise (e : Env) (s : State) : Result := .next (s.arrive e).panelRises

/-- The wake deadline is reached while WAKING (R128). -/
def State.wakeTaken (s : State) : State :=
  if s.sco.state = .waking ∧ deadlineDue s.sco.wakeDeadline s.relayTime = true then s.wakeLate.settle s else s

/-- WAKE_DEADLINE (R128). -/
def execWakeDeadline (e : Env) (s : State) : Result := .next (s.arrive e).wakeTaken

end Sys2Proof.Machine
end

