-- ==== Sys2Proof/Machine/Dispatch.lean ====
section
/-! DEFINITION. One arm for each command. -/
namespace Sys2Proof.Machine

def exec (i : Instr) (s : State) : Host.Outcome State Fault Refusal :=
  match i with
  | .powerOnReset straps => Sys2Proof.Machine.execPowerOnReset straps s
  | .groupPeriod e d => Sys2Proof.Machine.execGroupPeriod e d s
  | .laneQuiet e l => Sys2Proof.Machine.execLaneQuiet e l s
  | .laneActivity e l => Sys2Proof.Machine.execLaneActivity e l s
  | .stagingWriteCompletion e => Sys2Proof.Machine.execStagingWriteCompletion e s
  | .scanReadCompletion e => Sys2Proof.Machine.execScanReadCompletion e s
  | .captureReadCompletion e => Sys2Proof.Machine.execCaptureReadCompletion e s
  | .refreshCompletion e => Sys2Proof.Machine.execRefreshCompletion e s
  | .refreshDue e => Sys2Proof.Machine.execRefreshDue e s
  | .waitDeadline e p => Sys2Proof.Machine.execWaitDeadline e p s
  | .selfRefreshEntry e => Sys2Proof.Machine.execSelfRefreshEntry e s
  | .memoryExitDeadline e => Sys2Proof.Machine.execMemoryExitDeadline e s
  | .leadGate e k => Sys2Proof.Machine.execLeadGate e k s
  | .tminGate e => Sys2Proof.Machine.execTminGate e s
  | .repeatDeadline e => Sys2Proof.Machine.execRepeatDeadline e s
  | .plannedRepeat e => Sys2Proof.Machine.execPlannedRepeat e s
  | .graceExpiry e => Sys2Proof.Machine.execGraceExpiry e s
  | .scanLine e => Sys2Proof.Machine.execScanLine e s
  | .scanClose e => Sys2Proof.Machine.execScanClose e s
  | .panelReadyRise e => Sys2Proof.Machine.execPanelReadyRise e s
  | .wakeDeadline e => Sys2Proof.Machine.execWakeDeadline e s
  | .read e p addr count => Sys2Proof.Machine.execRead e p addr count s
  | .write e p addr data => Sys2Proof.Machine.execWrite e p addr data s
  | .maskedWrite e p addr data => Sys2Proof.Machine.execMaskedWrite e p addr data s
  | .relayModeWordWrite e p masked data => Sys2Proof.Machine.execRelayModeWordWrite e p masked data s
  | .enablesWrite e p masked second data => Sys2Proof.Machine.execEnablesWrite e p masked second data s
  | .identificationRead e p offset count => Sys2Proof.Machine.execIdentificationRead e p offset count s
  | .captureWindowRead e p offset count => Sys2Proof.Machine.execCaptureWindowRead e p offset count s
  | .selectRelease e p fillers count => Sys2Proof.Machine.execSelectRelease e p fillers count s
  | .applyInput e r => Sys2Proof.Machine.execApplyInput e r s
  | .applyPanel e r => Sys2Proof.Machine.execApplyPanel e r s
  | .commitOverlay e r => Sys2Proof.Machine.execCommitOverlay e r s
  | .pin e r => Sys2Proof.Machine.execPin e r s
  | .release e r => Sys2Proof.Machine.execRelease e r s
  | .realign e r => Sys2Proof.Machine.execRealign e r s
  | .relayReset e r => Sys2Proof.Machine.execRelayReset e r s
  | .nextRecord e r => Sys2Proof.Machine.execNextRecord e r s
  | .ackCause e p data => Sys2Proof.Machine.execAckCause e p data s
  | .setCause e p data => Sys2Proof.Machine.execSetCause e p data s
  | .laneTestOn e r => Sys2Proof.Machine.execLaneTestOn e r s
  | .laneTestOff e r => Sys2Proof.Machine.execLaneTestOff e r s
  | .badCommandTransaction e p bytes => Sys2Proof.Machine.execBadCommandTransaction e p bytes s

end Sys2Proof.Machine
end

