-- ==== Sys2Proof/Machine/Wire.lean ====
section
/-! DEFINITION. The bytes of a port transaction (R158, R161, R174, R175): which command the bytes shifted in make, and the
bytes that make a command. The select line brackets a transaction, so a list of bytes is a whole one. -/
namespace Sys2Proof.Machine

/-- The address of request number n (R175). -/
def requestAddress (n : Nat) : Nat := 0x0F0000 + n

/-- The command byte and address of a transaction, then its data (R158). -/
def header (command : Byte) (addr : Nat) (data : List Byte) : List Byte := command :: beBytes 3 addr ++ data

/-- The request that an address names, with its data bytes (R161, R175). -/
def requestOf (e : Env) (p : Port) (addr : Nat) (data : List Byte) : Option Instr :=
  match addr - 0x0F0000 with
  | 1 => some (.applyInput e ⟨p, data⟩)
  | 2 => some (.applyPanel e ⟨p, data⟩)
  | 3 => some (.commitOverlay e ⟨p, data⟩)
  | 4 => some (.pin e ⟨p, data⟩)
  | 5 => some (.release e ⟨p, data⟩)
  | 6 => some (.realign e ⟨p, data⟩)
  | 7 => some (.relayReset e ⟨p, data⟩)
  | 8 => some (.nextRecord e ⟨p, data⟩)
  | 9 => some (.ackCause e p data)
  | 10 => some (.setCause e p data)
  | 11 => some (.laneTestOn e ⟨p, data⟩)
  | 12 => some (.laneTestOff e ⟨p, data⟩)
  | _ => none

/-- A READ by its address: the identification, the capture window, or any other region (R159, R160, R168). -/
def readOf (e : Env) (p : Port) (addr count : Nat) : Instr :=
  if h : addr < 4 then .identificationRead e p ⟨addr, h⟩ count
  else if 0x800000 ≤ addr then .captureWindowRead e p (BitVec.ofNat 23 (addr - 0x800000)) count
  else .read e p (BitVec.ofNat 24 addr) count

/-- A WRITE or MASKED_WRITE by its address: the relay mode word, the enables, or any other region. -/
def writeOf (e : Env) (p : Port) (masked : Bool) (addr : Nat) (data : List Byte) : Instr :=
  if addr = 0x001000 then .relayModeWordWrite e p masked data
  else if addr = 0x000006 then .enablesWrite e p masked false data
  else if addr = 0x000007 then .enablesWrite e p masked true data
  else if masked then .maskedWrite e p (BitVec.ofNat 24 addr) data
  else .write e p (BitVec.ofNat 24 addr) data

/-- The command that the bytes of one whole transaction make at a port. -/
def transactionOf (e : Env) (p : Port) (bytes : List Byte) : Instr :=
  match bytes with
  | c :: a2 :: a1 :: a0 :: data =>
    let addr := beValue [a2, a1, a0]
    if c = cmdRead then readOf e p addr data.length
    else if c = cmdWrite then writeOf e p false addr data
    else if c = cmdMaskedWrite then writeOf e p true addr data
    else if c = cmdRequest then (requestOf e p addr data).getD (.badCommandTransaction e p bytes)
    else .badCommandTransaction e p bytes
  | _ => .badCommandTransaction e p bytes

/-- A request's bytes. -/
def requestBytes (n : Nat) (data : List Byte) : List Byte := header cmdRequest (requestAddress n) data

/-- The bytes that make a command at its port, for the rows that are whole transactions. The data in of a READ is not
read, and is written 0 here. -/
def wire : Instr → Option (List Byte)
  | .powerOnReset _ => none
  | .groupPeriod _ _ => none
  | .laneQuiet _ _ => none
  | .laneActivity _ _ => none
  | .stagingWriteCompletion _ => none
  | .scanReadCompletion _ => none
  | .captureReadCompletion _ => none
  | .refreshCompletion _ => none
  | .refreshDue _ => none
  | .waitDeadline _ _ => none
  | .selfRefreshEntry _ => none
  | .memoryExitDeadline _ => none
  | .leadGate _ _ => none
  | .tminGate _ => none
  | .repeatDeadline _ => none
  | .plannedRepeat _ => none
  | .graceExpiry _ => none
  | .scanLine _ => none
  | .scanClose _ => none
  | .panelReadyRise _ => none
  | .wakeDeadline _ => none
  | .read _ _ a n => some (header cmdRead a.toNat (List.replicate n 0))
  | .write _ _ a data => some (header cmdWrite a.toNat data)
  | .maskedWrite _ _ a data => some (header cmdMaskedWrite a.toNat data)
  | .relayModeWordWrite _ _ masked data => some (header (if masked then cmdMaskedWrite else cmdWrite) 0x001000 data)
  | .enablesWrite _ _ masked second data =>
    some (header (if masked then cmdMaskedWrite else cmdWrite) (if second then 7 else 6) data)
  | .identificationRead _ _ off n => some (header cmdRead off.val (List.replicate n 0))
  | .captureWindowRead _ _ off n => some (header cmdRead (0x800000 + off.toNat) (List.replicate n 0))
  | .selectRelease _ _ _ _ => none
  | .applyInput _ r => some (requestBytes 1 r.data)
  | .applyPanel _ r => some (requestBytes 2 r.data)
  | .commitOverlay _ r => some (requestBytes 3 r.data)
  | .pin _ r => some (requestBytes 4 r.data)
  | .release _ r => some (requestBytes 5 r.data)
  | .realign _ r => some (requestBytes 6 r.data)
  | .relayReset _ r => some (requestBytes 7 r.data)
  | .nextRecord _ r => some (requestBytes 8 r.data)
  | .ackCause _ _ data => some (requestBytes 9 data)
  | .setCause _ _ data => some (requestBytes 10 data)
  | .laneTestOn _ r => some (requestBytes 11 r.data)
  | .laneTestOff _ r => some (requestBytes 12 r.data)
  | .badCommandTransaction _ _ bytes => some bytes

/-- What led up to a port transaction, and its port, for the rows that are whole transactions. -/
def sender : Instr → Option (Env × Port)
  | .powerOnReset _ => none
  | .groupPeriod _ _ => none
  | .laneQuiet _ _ => none
  | .laneActivity _ _ => none
  | .stagingWriteCompletion _ => none
  | .scanReadCompletion _ => none
  | .captureReadCompletion _ => none
  | .refreshCompletion _ => none
  | .refreshDue _ => none
  | .waitDeadline _ _ => none
  | .selfRefreshEntry _ => none
  | .memoryExitDeadline _ => none
  | .leadGate _ _ => none
  | .tminGate _ => none
  | .repeatDeadline _ => none
  | .plannedRepeat _ => none
  | .graceExpiry _ => none
  | .scanLine _ => none
  | .scanClose _ => none
  | .panelReadyRise _ => none
  | .wakeDeadline _ => none
  | .read e p _ _ => some (e, p)
  | .write e p _ _ => some (e, p)
  | .maskedWrite e p _ _ => some (e, p)
  | .relayModeWordWrite e p _ _ => some (e, p)
  | .enablesWrite e p _ _ _ => some (e, p)
  | .identificationRead e p _ _ => some (e, p)
  | .captureWindowRead e p _ _ => some (e, p)
  | .selectRelease _ _ _ _ => none
  | .applyInput e r => some (e, r.port)
  | .applyPanel e r => some (e, r.port)
  | .commitOverlay e r => some (e, r.port)
  | .pin e r => some (e, r.port)
  | .release e r => some (e, r.port)
  | .realign e r => some (e, r.port)
  | .relayReset e r => some (e, r.port)
  | .nextRecord e r => some (e, r.port)
  | .ackCause e p _ => some (e, p)
  | .setCause e p _ => some (e, p)
  | .laneTestOn e r => some (e, r.port)
  | .laneTestOff e r => some (e, r.port)
  | .badCommandTransaction e p _ => some (e, p)

end Sys2Proof.Machine
end

