-- ==== Sys2Proof/WellFormed.lean ====
section
/-! DEFINITION. Which terms of `Instr` stand for a command of their own row. A transaction whose bytes another row names
is that row's command, and is written with that row's constructor. -/
namespace Sys2Proof

/-- A READ of its own row starts neither in the identification (R168) nor in the capture window (R160). -/
def readAddress (a : BitVec 24) : Bool := decide (4 ≤ a.toNat) && decide (a.toNat < 0x800000)

/-- A write of its own row starts neither at the relay mode word (R163) nor at the enables (R167). -/
def writeAddress (a : BitVec 24) : Bool := decide (a ≠ 0x001000) && decide (a ≠ 0x000006) && decide (a ≠ 0x000007)

/-- The bytes are no command and no known request (R158, R161). -/
def badBytes (bytes : List Byte) : Bool := Machine.badCommandBytes bytes || Machine.unknownRequestBytes bytes

/-- The command is written with the constructor of its own row. -/
def Instr.wf : Instr → Bool
  | .powerOnReset _ => true
  | .groupPeriod _ _ => true
  | .laneQuiet _ _ => true
  | .laneActivity _ _ => true
  | .stagingWriteCompletion _ => true
  | .scanReadCompletion _ => true
  | .captureReadCompletion _ => true
  | .refreshCompletion _ => true
  | .refreshDue _ => true
  | .waitDeadline _ _ => true
  | .selfRefreshEntry _ => true
  | .memoryExitDeadline _ => true
  | .leadGate _ _ => true
  | .tminGate _ => true
  | .repeatDeadline _ => true
  | .plannedRepeat _ => true
  | .graceExpiry _ => true
  | .scanLine _ => true
  | .scanClose _ => true
  | .panelReadyRise _ => true
  | .wakeDeadline _ => true
  | .read _ _ a _ => readAddress a
  | .write _ _ a _ => writeAddress a
  | .maskedWrite _ _ a _ => writeAddress a
  | .relayModeWordWrite _ _ _ _ => true
  | .enablesWrite _ _ _ _ _ => true
  | .identificationRead _ _ _ _ => true
  | .captureWindowRead _ _ _ _ => true
  | .selectRelease _ _ fillers count => decide (fillers ≤ count)
  | .applyInput _ _ => true
  | .applyPanel _ _ => true
  | .commitOverlay _ _ => true
  | .pin _ _ => true
  | .release _ _ => true
  | .realign _ _ => true
  | .relayReset _ _ => true
  | .nextRecord _ _ => true
  | .ackCause _ _ _ => true
  | .setCause _ _ _ => true
  | .laneTestOn _ _ => true
  | .laneTestOff _ _ => true
  | .badCommandTransaction _ _ bytes => badBytes bytes

end Sys2Proof
end

