-- ==== Sys2Proof/Safety.lean ====
section
/-! DEFINITION. What counts as a safe state, in the terms the statements use: the invariants that every step keeps, and
the part of the state that only port transactions change. -/
namespace Sys2Proof.Machine

/-! ## The side of the state that port transactions own -/

/-- What no event of the relay changes: the profile, the relay mode word, the pending copies and lists, overlay memory,
the expiry settings, and for each port its enables, freeze, trap, previous status and latest bytes out; with the queue of
commands and the stored pixels. -/
structure Outer where
  pending : List Instr
  profile : Fin 4
  modeWord : Byte
  pendingInput : InputContract
  pendingPanel : PanelContract
  pendingList : Vector Plane 8
  overlayMemory : Memory
  frameMemory : Memory
  expiry : PerPort Byte
  enables : PerPort (BitVec 12)
  frozen : PerPort (Option Cause)
  traps : PerPort (Option Trap)
  statuses : PerPort Status
  dataOut : PerPort (List Byte)
deriving DecidableEq, Repr

def State.outer (s : State) : Outer :=
  { pending := s.pending, profile := s.peu.profile, modeWord := s.peu.modeWord,
    pendingInput := s.peu.pendingInput, pendingPanel := s.peu.pendingPanel, pendingList := s.ovl.pendingList,
    overlayMemory := s.ovl.memory, frameMemory := s.mpt.frameMemory, expiry := s.store.expiry,
    enables := s.peu.ports.map (·.enables), frozen := s.peu.ports.map (·.frozen),
    traps := s.peu.ports.map (·.trap), statuses := s.peu.ports.map (·.prevStatus),
    dataOut := s.peu.ports.map (·.dataOut) }

/-! ## What the statements name -/

/-- The lanes in window in every group of a search run that this group ends (R22, R23). -/
def State.lanesThroughout (s : State) (o : PerLane LaneOutcome) : Nat :=
  (allLanes.filter fun l => (s.lane l).mark && (s.lane l).searchOutcome (o.get l)).length

/-- What a denied access of port p does, taken in state s with command byte `command` at `addr`, with `n` data bytes
clocked: the transaction ends DENIED with a 0 out for each data byte, the port's trap takes the denial, ACCESS_DENIED is
pending in both sets with the port in its detail where it was not pending before, and nothing else changes (R164). -/
structure DeniedAccess (s t : State) (p : Port) (command : Byte) (addr : BitVec 24) (n : Nat) : Prop where
  status : (t.port p).prevStatus = .denied ∧ (t.port p).txn = none
  bytesOut : (t.port p).dataOut = [(s.port p).prevStatus.code, 0, 0, 0] ++ List.replicate n 0
  trap : (t.port p).trap = (match (s.port p).trap with
    | none => some { command := command, address := addr, time := s.relayTime, further := false }
    | some x => some { x with further := true })
  cause : ∀ q, (t.port q).flags .accessDenied = (if ((s.port q).flags .accessDenied).pending
    then { (s.port q).flags .accessDenied with repeated := true }
    else { pending := true, repeated := false, detail := causeDetail 0 (portCode p) })
  otherCauses : ∀ q c, c ≠ .accessDenied → (t.port q).flags c = (s.port q).flags c
  ports : ∀ q, (t.port q).enables = (s.port q).enables ∧ (t.port q).frozen = (s.port q).frozen ∧
    (q ≠ p → (t.port q).trap = (s.port q).trap ∧ (t.port q).prevStatus = (s.port q).prevStatus ∧
      (t.port q).dataOut = (s.port q).dataOut ∧ (t.port q).txn = (s.port q).txn)
  peu : { t.peu with ports := s.peu.ports } = s.peu
  rest : { t with peu := s.peu } = s

/-- The bits of byte j of the pending input copy that hold a field (R181). -/
def inputHeld (j : Nat) : Byte := if j = 3 then 0x07 else 0xFF

/-- The bits of byte j of the pending panel copy that hold a field (R181): Hold supported has one, and each component of
the border colour twelve. -/
def panelHeld (j : Nat) : Byte :=
  if j = 19 then 0x01 else if j = 36 ∨ j = 38 ∨ j = 40 then 0x0F else 0xFF

/-- The bits of byte j of a plane record that hold a field (R178). That the other bits of the Enable byte and of x, y,
width and height hold nothing is the model's choice (assumption log 35). -/
def planeHeld (j : Nat) : Byte :=
  if j = 0 then 0x01
  else if j = 3 ∨ j = 22 ∨ j = 23 ∨ 56 ≤ j then 0x00
  else if 4 ≤ j ∧ j < 18 ∧ j % 2 = 0 then 0x0F
  else if 24 ≤ j ∧ (j % 8 = 0 ∨ j % 8 = 2 ∨ j % 8 = 4) then 0x0F
  else if 24 ≤ j ∧ j % 8 = 7 then 0x00
  else 0xFF

/-- Byte j of a region's fields after a WRITE of `data` from offset `off`, with the bits of it that hold a field. -/
def writtenByte (old : List Byte) (off : Nat) (data : List Byte) (held : Nat → Byte) (j : Nat) : Byte :=
  if off ≤ j ∧ j < off + data.length then data.getD (j - off) 0 &&& held j else old.getD j 0

/-! ## Invariants -/

/-- Overlay memory and frame memory keep their canonical form. -/
structure State.Canonical (s : State) : Prop where
  overlay : Memory.wf s.ovl.memory
  frame : Memory.wf s.mpt.frameMemory

/-- The relay mode word holds a legal value: bit 7 reads 0 and LOWLAG_POLICY is no reserved encoding (R163, R176). -/
structure State.ModeLegal (s : State) : Prop where
  bit7 : s.peu.modeWord.getLsbD 7 = false
  policy : s.lowlag ≠ .reserved

/-- The pin holders of the slots and the pin records agree, a pinned slot holds the frame it held at the grant, counts lie
in 1 to 255, and no more than U − 3 pins are held (R144, R145). -/
structure State.PinsAgree (s : State) : Prop where
  holders : ∀ (p : Port) (k : Fin 5),
    (s.slot k).pinHolders.get p = true ↔ ∃ x, s.store.pins.get p = some x ∧ x.slot = k
  live : ∀ (p : Port) (x : Pin), s.store.pins.get p = some x →
    (s.slot x.slot).state ≠ .free ∧ (s.slot x.slot).arrival = x.arrival
  counts : ∀ (p : Port) (x : Pin), s.store.pins.get p = some x → 1 ≤ x.remaining ∧ x.remaining ≤ 255
  limit : s.pinsHeld ≤ s.pinLimit

/-- The scan-out scans exactly while it holds a current scan, and is QUIET exactly while no panel contract has taken
effect, which is when the relay is IDLE (R1, R3, R96, R99). -/
structure State.ScanAgrees (s : State) : Prop where
  scan : s.sco.scan.isSome = true ↔ s.sco.state = .scanning
  idle : s.relay.state = .idle ↔ s.relay.panel = none
  quiet : s.sco.state = .quiet ↔ s.relay.panel = none

/-- The ring and its readers keep their bounds (R153, R154). -/
structure State.RingBounded (s : State) : Prop where
  ring : s.records.ring.length ≤ 32
  unread : ∀ p, (s.records.readers.get p).unread ≤ s.records.ring.length
  lost : ∀ p, (s.records.readers.get p).lost ≤ 255
  tally : s.records.repeatTally ≤ 65535

/-- No count of a lane exceeds the active limits (R21). -/
structure State.CountsLimited (s : State) : Prop where
  misses : ∀ l, (s.lane l).missCount ≤ s.relay.input.missLimit
  skews : ∀ l, (s.lane l).skewCount ≤ s.relay.input.skewLimit

/-- The queues and counters of the memory path and of pacing keep their bounds (R38, R73, R79, R135). -/
structure State.QueuesBounded (s : State) : Prop where
  staging : s.lra.staging.length ≤ 64
  owed : s.mpt.owed ≤ 8
  intervals : s.pacing.intervals.length ≤ 8
  penalty : s.pacing.penalty ≤ 4
  clean : s.pacing.clean ≤ 15

end Sys2Proof.Machine
end

