-- ==== Sys2Proof/Certificates/Slice0/Obligations.lean ====
section
/-! DEFINITION. The statements for the provers. In each, `s.arrive e` is the state when the command is taken: relay time
advanced by what the command says, upset bits flipped, the record of the panel link empty. -/
open Sys2Proof Sys2Proof.Machine

/-! ## The step -/

/-- The command at the front of the queue is taken with the queue's rest. -/
def Obligations.StepRunsTheFrontCommand : Prop :=
  ∀ (c : Instr) (rest : List Instr) (s : State),
    step { s with pending := c :: rest } = exec c { s with pending := rest }

/-- With no command waiting, one microsecond passes and nothing else changes but the record of the link, which is empty
(the model's choice, assumption log 2), and the model's own note that the recorded idle interval since P_last has passed,
which is set once it has (assumption log 37). -/
def Obligations.EmptyQueueTicks : Prop :=
  ∀ s : State, s.pending = [] → ∃ t, step s = .next t ∧
    t = { s with relayTime := s.relayTime + 1, link := [], idlePassed := t.idlePassed } ∧
    (t.idlePassed = true ↔ s.idlePassed = true ∨
      ∃ o, s.pacing.lastOpen = some o ∧ o.idle ≤ (s.relayTime - o.time).toNat + 1)

/-! ## Reset -/

/-- POWER_ON_RESET completes from every state, with the values the manual gives for power-on reset. -/
def Obligations.PowerOnResetValues : Prop :=
  ∀ (k : Fin 4) (s : State), ∃ t, exec (.powerOnReset k) s = .next t ∧
    t.pending = s.pending ∧ t.relayTime = 0 ∧ t.peu.profile = k ∧ t.peu.modeWord = 0x79 ∧
    t.relay.state = .idle ∧ t.relay.panel = none ∧ t.relay.waitingInput = none ∧ t.relay.waitingPanel = none ∧
    t.relay.input = { sliceHeight := 16, missLimit := 32, skewLimit := 32, depths := 7 } ∧
    t.lra.aligner = .search ∧ t.lra.searchRun = 0 ∧ t.lra.assembly = .gap ∧ t.lra.staging = [] ∧
    t.lra.testOn = false ∧ t.sco.state = .quiet ∧ t.pacing.lastOpen = none ∧ t.pacing.repeatSource = none ∧
    t.store.usable = 0 ∧ t.mpt.power = .active ∧ t.mpt.owed = 0 ∧ t.mpt.lastGranted = .link ∧
    t.records.ring = [] ∧ t.records.nextSequence = 0 ∧ t.ovl.commitNumber = 0 ∧
    t.peu.pendingInput.bytes = [0x10, 0x20, 0x20, 0x07] ∧ t.peu.pendingPanel.bytes = List.replicate 44 0 ∧
    (∀ i : Fin 8, t.ovl.pendingList[i].bytes = List.replicate 64 0 ∧ t.ovl.active[i].bytes = List.replicate 64 0) ∧
    t.ovl.waiting = none ∧ t.relay.refused = false ∧ t.relay.graceFlag = false ∧ t.relay.graceEnd = none ∧
    t.relay.lastMode = none ∧ t.pacing.holdReference = none ∧ t.mpt.capture = { system := none, link := none } ∧
    t.mpt.scanReads = [] ∧ t.mpt.transfer = none ∧ t.mpt.timerRunning = true ∧ t.mpt.exitDeadline = none ∧
    t.records.stats =
      { framesAccepted := 0, supersededFrames := 0, repeatScans := 0, borderScans := 0, lateSlices := 0,
        damagedSlices := 0, concealedLines := 0, voteFailures := 0, unknownDescriptors := 0, sequenceGaps := 0,
        stagingOverflow := 0, correctable := 0, misses := { a := 0, b := 0, c := 0 },
        skews := { a := 0, b := 0, c := 0 }, faults := { a := 0, b := 0, c := 0 } } ∧
    (∀ p, (t.records.readers.get p).unread = 0 ∧ (t.records.readers.get p).lost = 0 ∧
      (t.records.readers.get p).view.record = none) ∧
    (∀ j, (t.slot j).state = .free) ∧
    (∀ l, (t.lane l).state = .active ∧ (t.lane l).missCount = 0 ∧ (t.lane l).skewCount = 0) ∧
    (∀ a, readByte t.ovl.memory a = 0 ∧ readByte t.mpt.frameMemory a = 0) ∧
    ∀ p, t.store.expiry.get p = 8 ∧ t.store.pins.get p = none ∧ (t.port p).prevStatus = .ok ∧
      (t.port p).enables = 0 ∧ (t.port p).trap = none ∧ (t.port p).frozen = none ∧ (t.port p).line = false ∧
      ∀ c, (t.port p).flags c = { pending := false, repeated := false, detail := 0 }

/-- The invariants of Sys2Proof/Safety.lean hold right after reset. -/
def Obligations.InvariantsHoldAtReset : Prop :=
  State.reset.Canonical ∧ State.reset.ModeLegal ∧ State.reset.PinsAgree ∧ State.reset.ScanAgrees ∧
    State.reset.RingBounded ∧ State.reset.CountsLimited ∧ State.reset.QueuesBounded

/-! ## The aligner (chapter 2) -/

/-- A qualifying group of SEARCH raises the run by one and leaves set the marks of the lanes in window throughout; every
lane keeps its state and counts. A group with fewer than two lanes in window ends the run: it returns to 0 with every
mark clear. Stated while no frame is received; in the first part the run is not at its end. -/
def Obligations.SearchRunFollowsTheGroups : Prop :=
  (∀ (e : Env) (d : PerLane Delivery) (s : State),
    s.lra.aligner = .search → s.lra.testOn = false → s.lra.assembly ≠ .receiving → s.lra.searchRun < 7 →
    2 ≤ s.lanesInWindow (outcomes d) →
    ∃ t, exec (.groupPeriod e d) s = .next t ∧ t.lra.aligner = .search ∧ t.lra.searchRun = s.lra.searchRun + 1 ∧
      ∀ l, (t.lane l).mark =
          ((s.lane l).searchOutcome ((outcomes d).get l) && (decide (s.lra.searchRun = 0) || (s.lane l).mark)) ∧
        (t.lane l).state = (s.lane l).state ∧ (t.lane l).missCount = (s.lane l).missCount ∧
        (t.lane l).skewCount = (s.lane l).skewCount) ∧
  (∀ (e : Env) (d : PerLane Delivery) (s : State),
    s.lra.aligner = .search → s.lra.testOn = false → s.lra.assembly ≠ .receiving →
    s.lanesInWindow (outcomes d) < 2 →
    ∃ t, exec (.groupPeriod e d) s = .next t ∧ t.lra.aligner = .search ∧ t.lra.searchRun = 0 ∧
      ∀ l, (t.lane l).mark = false ∧ (t.lane l).state = (s.lane l).state)

/-- The end of a search run, at its eighth qualifying group. Three lanes in window throughout lock the aligner: every
lane ACTIVE with both counts cleared. Two lock it DEGRADED with CONCEAL_PERMIT 1: they are ACTIVE with both counts
cleared, and the third stays QUIET if it was, or becomes FAULTED, which raises LANE_FAULT and counts a fault only if it
was ACTIVE. After a lock the frame assembly is in GAP and every rejoin run is 0. Two with CONCEAL_PERMIT 0, or fewer,
restart the run in SEARCH with every mark clear, and no lane state changes. That the run shows 0 after a lock is the
model's choice (assumption log 13). -/
def Obligations.EighthGroupLocks : Prop :=
  (∀ (e : Env) (d : PerLane Delivery) (s : State),
    s.lra.aligner = .search → s.lra.testOn = false → s.lra.assembly ≠ .receiving → s.lra.searchRun = 7 →
    (∀ l, (s.lane l).mark = true ∧ (s.lane l).searchOutcome ((outcomes d).get l) = true) →
    ∃ t, exec (.groupPeriod e d) s = .next t ∧ t.lra.aligner = .locked ∧ t.lra.searchRun = 0 ∧
      t.lra.assembly = .gap ∧
      ∀ l, (t.lane l).state = .active ∧ (t.lane l).missCount = 0 ∧ (t.lane l).skewCount = 0 ∧
        (t.lane l).rejoinRun = 0) ∧
  (∀ (e : Env) (d : PerLane Delivery) (l : Lane) (s : State),
    s.lra.aligner = .search → s.lra.testOn = false → s.lra.assembly ≠ .receiving → s.lra.searchRun = 7 →
    s.concealPermit = true →
    (∀ m, m ≠ l → (s.lane m).mark = true ∧ (s.lane m).searchOutcome ((outcomes d).get m) = true) →
    ((s.lane l).mark && (s.lane l).searchOutcome ((outcomes d).get l)) = false →
    ∃ t, exec (.groupPeriod e d) s = .next t ∧ t.lra.aligner = .degraded ∧ t.lra.searchRun = 0 ∧
      t.lra.assembly = .gap ∧ (∀ m, (t.lane m).rejoinRun = 0) ∧
      (∀ m, m ≠ l → (t.lane m).state = .active ∧ (t.lane m).missCount = 0 ∧ (t.lane m).skewCount = 0) ∧
      (t.lane l).state = (if (s.lane l).state = .quiet then .quiet else .faulted) ∧
      ((s.lane l).state = .active →
        t.records.stats.faults.get l = min (s.records.stats.faults.get l + 1) 4294967295 ∧
        ∀ p, ((t.port p).flags .laneFault).pending = true ∧
          (((s.port p).flags .laneFault).pending = false →
            ((t.port p).flags .laneFault).detail = causeDetail 1 (laneCode l))) ∧
      ((s.lane l).state ≠ .active → t.records.stats.faults = s.records.stats.faults ∧
        ∀ p, (t.port p).flags .laneFault = (s.port p).flags .laneFault)) ∧
  (∀ (e : Env) (d : PerLane Delivery) (s : State),
    s.lra.aligner = .search → s.lra.testOn = false → s.lra.assembly ≠ .receiving → s.lra.searchRun = 7 →
    2 ≤ s.lanesInWindow (outcomes d) →
    (s.lanesThroughout (outcomes d) < 2 ∨ s.lanesThroughout (outcomes d) = 2 ∧ s.concealPermit = false) →
    ∃ t, exec (.groupPeriod e d) s = .next t ∧ t.lra.aligner = .search ∧ t.lra.searchRun = 0 ∧
      ∀ l, (t.lane l).mark = false ∧ (t.lane l).state = (s.lane l).state ∧
        (t.lane l).missCount = (s.lane l).missCount ∧ (t.lane l).skewCount = (s.lane l).skewCount)

/-- In LOCKED and DEGRADED, a group period of FILL words or none that brings no lane to a limit changes the counts of
each ACTIVE lane as the table of R21 says. Stated while no input apply waits. -/
def Obligations.CountsFollowOutcomes : Prop :=
  ∀ (e : Env) (d : PerLane Delivery) (s : State),
    s.lra.aligner ≠ .search → s.relay.waitingInput = none →
    (∀ l w, deliveredWord (d.get l) = some w → wordKind w = .fill) →
    (∀ l, (s.lane l).state = .active → (s.lane l).countFaults s.relay.input ((outcomes d).get l) = false) →
    ∃ t, exec (.groupPeriod e d) s = .next t ∧
      ∀ l, (s.lane l).state = .active → (t.lane l).state = .active ∧
        match (outcomes d).get l with
        | .inWindow => (t.lane l).missCount = 0 ∧ (t.lane l).skewCount = 0
        | .outOfWindow => (t.lane l).missCount = (s.lane l).missCount ∧
            (t.lane l).skewCount =
              (if s.relay.input.skewLimit = 0 then 0 else min ((s.lane l).skewCount + 1) s.relay.input.skewLimit)
        | .nothing => (t.lane l).skewCount = (s.lane l).skewCount ∧
            (t.lane l).missCount =
              (if s.relay.input.missLimit = 0 then 0 else min ((s.lane l).missCount + 1) s.relay.input.missLimit)

/-- One lane reaching its miss or skew limit in LOCKED with CONCEAL_PERMIT 0 is a loss of lock: the lane FAULTED, the
aligner in SEARCH, LANE_FAULT and LOCK_LOST pending in both cause sets, every other lane ACTIVE with both counts
cleared. Where the entry into SEARCH cuts a frame and an input apply waits, that the other lanes stay ACTIVE under the
new limits is the model's reading (assumption log 29). -/
def Obligations.FaultWithoutConcealLosesLock : Prop :=
  ∀ (e : Env) (d : PerLane Delivery) (s : State) (l : Lane),
    s.lra.aligner = .locked → s.concealPermit = false → (∀ m, (s.lane m).state = .active) →
    (s.lane l).countFaults s.relay.input ((outcomes d).get l) = true →
    (∀ m, m ≠ l → (s.lane m).countFaults s.relay.input ((outcomes d).get m) = false) →
    ∃ t, exec (.groupPeriod e d) s = .next t ∧ t.lra.aligner = .search ∧ t.lra.searchRun = 0 ∧
      (t.lane l).state = .faulted ∧
      (∀ m, m ≠ l → (t.lane m).state = .active ∧ (t.lane m).missCount = 0 ∧ (t.lane m).skewCount = 0) ∧
      ∀ p, ((t.port p).flags .laneFault).pending = true ∧ ((t.port p).flags .lockLost).pending = true

/-- Three identical DESCRIPTOR words in window on three ACTIVE lanes of a LOCKED aligner write their value into the held
preface field of their index; an index of 7 to 15 leaves the preface and counts one unknown descriptor. A control group
whose three words agree in no pair changes neither preface nor frame assembly, and counts one vote failure (this part is
stated with no panel apply waiting). -/
def Obligations.TheVoteDecides : Prop :=
  (∀ (e : Env) (w : LaneWord) (s : State),
    s.lra.aligner = .locked → (∀ l, (s.lane l).state = .active) → hasSync w = true → wordKind w = .descriptor →
    ∃ t, exec (.groupPeriod e { a := .inWindow w, b := .inWindow w, c := .inWindow w }) s = .next t ∧
      (wordCode w < 7 → t.lra.preface = s.lra.preface.accept (wordCode w) (descriptorValue w) ∧
        t.records.stats.unknownDescriptors = s.records.stats.unknownDescriptors) ∧
      (7 ≤ wordCode w → t.lra.preface = s.lra.preface ∧
        t.records.stats.unknownDescriptors = min (s.records.stats.unknownDescriptors + 1) 4294967295)) ∧
  (∀ (e : Env) (u v w : LaneWord) (s : State),
    s.lra.aligner = .locked → (∀ l, (s.lane l).state = .active) → s.relay.waitingPanel = none →
    hasSync u = true → hasSync v = true → hasSync w = true →
    isControl u = true → isControl v = true → isControl w = true →
    sameWord u v = false → sameWord u w = false → sameWord v w = false →
    ∃ t, exec (.groupPeriod e { a := .inWindow u, b := .inWindow v, c := .inWindow w }) s = .next t ∧
      t.records.stats.voteFailures = min (s.records.stats.voteFailures + 1) 4294967295 ∧
      t.lra.preface = s.lra.preface ∧ t.lra.assembly = s.lra.assembly ∧ t.lra.frame = s.lra.frame ∧
      t.lra.linesDone = s.lra.linesDone ∧ t.lra.groupIndex = s.lra.groupIndex ∧
      t.lra.lineBuffer = s.lra.lineBuffer)

/-- A pixel group of three PIXEL words in RECEIVING, before the line has its groups and the frame its lines, adds its
three positions, those below W, depth-aligned, to the line, and raises the group index by one. Positions at or beyond W
count as excess words. Stated with no panel apply waiting. -/
def Obligations.PixelGroupExtendsTheLine : Prop :=
  ∀ (e : Env) (u v w : LaneWord) (f : RxFrame) (s : State),
    s.lra.aligner = .locked → (∀ l, (s.lane l).state = .active) → s.relay.waitingPanel = none →
    s.lra.assembly = .receiving → s.lra.frame = some f → s.lra.linesDone < f.height →
    s.lra.groupIndex < ceilDiv f.width 3 → s.lra.lineBuffer.length = 3 * s.lra.groupIndex →
    hasSync u = true → hasSync v = true → hasSync w = true →
    wordKind u = .pixel → wordKind v = .pixel → wordKind w = .pixel →
    ∃ t, exec (.groupPeriod e { a := .inWindow u, b := .inWindow v, c := .inWindow w }) s = .next t ∧
      t.lra.groupIndex = s.lra.groupIndex + 1 ∧ t.lra.linesDone = s.lra.linesDone ∧
      t.lra.lineBuffer = (s.lra.lineBuffer ++ [some (alignPixel f.depth (pixelOf u)),
        some (alignPixel f.depth (pixelOf v)), some (alignPixel f.depth (pixelOf w))]).take f.width ∧
      t.lra.excessWords = min (s.lra.excessWords + (3 * s.lra.groupIndex + 3 - f.width)) 4294967295 ∧
      t.lra.assembly = .receiving ∧ t.lra.frame = some f

/-- Depth alignment takes a component modulo 2^d and multiplies it by 2^(12 − d). In a completed line of W positions,
those of groups that never arrived among them, a received position keeps its pixel; a missing one takes, in each
component, (left + right + 1) div 2 of the nearest received pixels of the line at its two sides, the copy of the one
there is, or 0 (R36). -/
def Obligations.ConcealmentByNearestNeighbours : Prop :=
  (∀ (d : Nat) (c : Component), d = 8 ∨ d = 10 ∨ d = 12 →
    (alignComponent d c).toNat = c.toNat % 2 ^ d * 2 ^ (12 - d)) ∧
  ∀ (width : Nat) (buffer : List (Option Rgb)), buffer.length ≤ width →
    (concealFrom none (fullLine width buffer)).length = width ∧
    ∀ x, x < width → ∃ p, (concealFrom none (fullLine width buffer))[x]? = some p ∧
      match (buffer[x]?).join, ((buffer.take x).filterMap id).getLast?, ((buffer.drop (x + 1)).filterMap id).head? with
      | some q, _, _ => p = q
      | none, some l, some r =>
        p.r.toNat = (l.r.toNat + r.r.toNat + 1) / 2 ∧ p.g.toNat = (l.g.toNat + r.g.toNat + 1) / 2 ∧
          p.b.toNat = (l.b.toNat + r.b.toNat + 1) / 2
      | none, some l, none => p = l
      | none, none, some r => p = r
      | none, none, none => p.r = 0 ∧ p.g = 0 ∧ p.b = 0

/-- An LE accepted in RECEIVING with L below H, the staging queue not full and the frame still in its slot, completes
the line: L rises by one, the group index returns to 0, and the line stands at the tail of the staging queue, concealed,
with its flag. Stated while the scan-out is not READY, so that no scan opens at the event. -/
def Obligations.LineEndStagesTheLine : Prop :=
  ∀ (e : Env) (w : LaneWord) (f : RxFrame) (s : State),
    s.lra.aligner = .locked → (∀ l, (s.lane l).state = .active) → s.sco.state ≠ .ready →
    s.lra.assembly = .receiving → s.lra.frame = some f → s.lra.linesDone < f.height →
    s.lra.staging.length < 64 → s.holdsFrame f.slot f.arrival = true →
    hasSync w = true → wordKind w = .mark → wordCode w = 2 →
    ∃ t, exec (.groupPeriod e { a := .inWindow w, b := .inWindow w, c := .inWindow w }) s = .next t ∧
      t.lra.linesDone = s.lra.linesDone + 1 ∧ t.lra.groupIndex = 0 ∧ t.lra.lineBuffer = [] ∧
      t.lra.assembly = .receiving ∧ (t.slot f.slot).linesReceived = s.lra.linesDone + 1 ∧
      t.lra.staging.getLast? = some
        { slot := f.slot, arrival := f.arrival, line := s.lra.linesDone,
          concealed := (fullLine f.width s.lra.lineBuffer).any (fun p => p.isNone),
          pixels := concealFrom none (fullLine f.width s.lra.lineBuffer) }

/-- A refused FS raises FORMAT_REFUSED, sets the refused-preface condition and discards the frame; no slot is touched
and no frame counted as accepted. Stated for an FS in GAP while a scan is in progress. -/
def Obligations.RefusedFrameTouchesNoSlot : Prop :=
  ∀ (e : Env) (w : LaneWord) (reason : Nat) (s : State),
    s.lra.aligner = .locked → (∀ l, (s.lane l).state = .active) → s.sco.state = .scanning →
    s.lra.assembly = .gap → s.relay.state ≠ .idle →
    s.lra.preface.refusal s.contract.pw s.contract.ph s.relay.input.depths = some reason →
    hasSync w = true → wordKind w = .mark → wordCode w = 1 →
    ∃ t, exec (.groupPeriod e { a := .inWindow w, b := .inWindow w, c := .inWindow w }) s = .next t ∧
      t.lra.assembly = .discarding ∧ t.relay.refused = true ∧ t.store = (s.arrive e).store ∧
      t.records.stats.framesAccepted = s.records.stats.framesAccepted ∧
      ∀ p, ((t.port p).flags .formatRefused).pending = true ∧
        (((s.port p).flags .formatRefused).pending = false →
          ((t.port p).flags .formatRefused).detail = causeDetail reason 0)

/-- An accepted FS opens a frame: the lowest FREE slot becomes FILLING with the source frame number, the preface copy
(width, height, depth, rate mode, declared interval, LOWLAG), the arrival stamp, the frame mode, the placement, h and N;
the assembly is in RECEIVING with L and the group index 0; the refused condition is clear and one frame is counted. A
WHOLE frame has no lead. A PASS frame's lead W is that of R78, from O and S_eff of R76, the reference D or S_eff in its
absence, and the penalty level, both of which a geometry change clears first; its lead gate lies W after A. Stated for
an FS in GAP while a scan is in progress and a usable slot is FREE. -/
def Obligations.AcceptedFrameOpensASlot : Prop :=
  ∀ (e : Env) (w : LaneWord) (k : Fin 5) (x y : BitVec 32) (s : State),
    s.lra.aligner = .locked → (∀ l, (s.lane l).state = .active) → s.sco.state = .scanning →
    s.lra.assembly = .gap → s.relay.state ≠ .idle →
    s.lra.preface.refusal s.contract.pw s.contract.ph s.relay.input.depths = none →
    s.lra.preface.width = some x → s.lra.preface.height = some y → s.lowestFree = some k →
    hasSync w = true → wordKind w = .mark → wordCode w = 1 →
    ∃ t, exec (.groupPeriod e { a := .inWindow w, b := .inWindow w, c := .inWindow w }) s = .next t ∧
      (t.slot k).state = .filling ∧ (t.slot k).frameNumber = frameNumberOf w ∧
      (t.slot k).width = x.toNat ∧ (t.slot k).height = y.toNat ∧ (t.slot k).lowlag = s.lra.preface.lowlag ∧
      some (t.slot k).depth = s.lra.preface.depth.map BitVec.toNat ∧ (t.slot k).rate = s.lra.preface.rate ∧
      (t.slot k).declared = s.lra.preface.declared ∧ (t.slot k).leadReached = false ∧
      (frameModeFor s.lowlag s.lra.preface.lowlag = .whole → (t.slot k).lead = none ∧ (t.slot k).leadGate = none) ∧
      (frameModeFor s.lowlag s.lra.preface.lowlag = .pass →
        ∀ (changed : Bool) (open_ sEff n dRef level : Nat),
          changed = s.pacing.prevSize.any (fun z => decide (z ≠ (x.toNat, y.toNat))) →
          open_ = s.contract.span * (t.slot k).y0 / s.contract.ph →
          sEff = s.contract.span * (t.slot k).scale * y.toNat / s.contract.ph →
          n = (t.slot k).slices →
          dRef = max 1 (min ((if changed then none else s.pacing.referenceD).getD sEff) 1000000) →
          level = (if changed then 0 else s.pacing.penalty) →
          ∃ lead : Nat, (t.slot k).lead = some lead ∧
            (t.slot k).leadGate = some { origin := (s.arrive e).relayTime, span := lead } ∧
            (lead : Int) = min (max 0 (max (ceilDiv dRef n : Int) ((dRef : Int) - (sEff * (n - 1) / n : Nat)) +
              ceilDiv (2 * sEff) n - open_) + s.contract.guardTime + level * ceilDiv sEff n) 65535) ∧
      (t.slot k).arrival = (s.arrive e).relayTime ∧
      (t.slot k).mode = some (frameModeFor s.lowlag s.lra.preface.lowlag) ∧
      ((t.slot k).scale, (t.slot k).x0, (t.slot k).y0) =
        placementFor s.scalePermit s.contract.pw s.contract.ph x.toNat y.toNat ∧
      (t.slot k).sliceHeight = s.relay.input.sliceHeight ∧
      (t.slot k).slices = ceilDiv y.toNat s.relay.input.sliceHeight ∧
      (∀ j, (t.slot k).entry j = SliceEntry.reset) ∧
      t.lra.assembly = .receiving ∧ t.lra.linesDone = 0 ∧ t.lra.groupIndex = 0 ∧ t.relay.refused = false ∧
      t.lra.prevFrameNumber = some (frameNumberOf w) ∧ t.pacing.holdReference = some (s.arrive e).relayTime ∧
      t.records.stats.framesAccepted = min (s.records.stats.framesAccepted + 1) 4294967295

/-- A line that goes static makes an ACTIVE or FAULTED lane QUIET with its activity-seen flag clear, and LANE_FAULT is
pending in both sets, with reason QUIET and the lane where it was not pending before. The line of a QUIET lane going
static again clears its activity-seen flag and its rejoin run and raises nothing (stated with no panel apply waiting).
Activity on the line of a QUIET lane sets its activity-seen flag and changes nothing else; that on another lane's line
it is no event is the model's reading (assumption log 3). -/
def Obligations.LaneLineEvents : Prop :=
  (∀ (e : Env) (l : Lane) (s : State), (s.lane l).state ≠ .quiet →
    ∃ t, exec (.laneQuiet e l) s = .next t ∧ (t.lane l).state = .quiet ∧ (t.lane l).activitySeen = false ∧
      (s.relay.waitingInput = none → ∀ m, m ≠ l → (t.lane m).state = (s.lane m).state) ∧
      ∀ p, ((t.port p).flags .laneFault).pending = true ∧
        (((s.port p).flags .laneFault).pending = false →
          ((t.port p).flags .laneFault).detail = causeDetail 2 (laneCode l))) ∧
  (∀ (e : Env) (l : Lane) (s : State), (s.lane l).state = .quiet → s.relay.waitingPanel = none →
    ∃ t, exec (.laneQuiet e l) s = .next t ∧
      t.lane l = { s.lane l with activitySeen := false, rejoinRun := 0 } ∧
      (∀ m, m ≠ l → t.lane m = s.lane m) ∧ t.lra.aligner = s.lra.aligner ∧
      ∀ p, (t.port p).flags .laneFault = (s.port p).flags .laneFault) ∧
  (∀ (e : Env) (l : Lane) (s : State),
    ((s.lane l).state = .quiet → exec (.laneActivity e l) s =
      .next ((s.arrive e).modLane l fun x => { x with activitySeen := true })) ∧
    ((s.lane l).state ≠ .quiet → exec (.laneActivity e l) s = .next (s.arrive e)))

/-! ## The frame memory port (chapter 8, section 7.4) -/

/-- A staging write's completion puts the line's pixels at the address its grant gave it: reading them back gives them,
and every byte outside the ceil(4.5 n) bytes from that address on reads as before. Overlay memory is untouched. Its line
leaves the staging queue (this part is stated where the next head's slot, if there is one, holds that head's frame, so
that no more lines are dropped). If the line's slot still holds its frame, the entry of its slice counts one line more,
and becomes READY, with the ready count one higher, when it is FILLING, has all its lines and has discarded none;
otherwise it keeps its state, and the other entries stay. If the slot holds the frame no more, no slot changes. The parts
on queue and slices are stated while a scan is in progress, so that none opens at the event, and the slice part for an
entry with good check bits. -/
def Obligations.StagingWriteStoresTheLine : Prop :=
  (∀ (e : Env) (l : StagedLine) (addr : Nat) (queued : Bool) (s : State),
    s.mpt.transfer = some (.stagingWrite l addr queued) →
    ∃ t, exec (.stagingWriteCompletion e) s = .next t ∧
      readPixels t.mpt.frameMemory addr 0 l.pixels.length = l.pixels ∧
      (∀ a, a < addr ∨ addr + ceilDiv (9 * l.pixels.length) 2 ≤ a →
        readByte t.mpt.frameMemory a = readByte s.mpt.frameMemory a) ∧
      t.ovl.memory = s.ovl.memory) ∧
  (∀ (e : Env) (l : StagedLine) (addr : Nat) (rest : List StagedLine) (s : State),
    s.mpt.transfer = some (.stagingWrite l addr true) → s.lra.staging = l :: rest → s.sco.state = .scanning →
    (∀ m, rest.head? = some m → s.holdsFrame m.slot m.arrival = true) →
    ∃ t, exec (.stagingWriteCompletion e) s = .next t ∧ t.lra.staging = rest) ∧
  (∀ (e : Env) (l : StagedLine) (addr j : Nat) (queued : Bool) (r : Slot) (x : SliceEntry) (s : State),
    s.mpt.transfer = some (.stagingWrite l addr queued) → s.sco.state = .scanning →
    s.holdsFrame l.slot l.arrival = true → r = (s.arrive e).slot l.slot → j = l.line / r.sliceHeight → j < 270 →
    x = r.entry j → x.check = .good →
    ∃ t, exec (.stagingWriteCompletion e) s = .next t ∧
      (t.slot l.slot).entry j =
        { x with
          written := x.written + 1
          state := if x.state = .filling ∧ x.written + 1 = r.capacity j ∧ x.discarded = false then .ready
            else x.state } ∧
      (t.slot l.slot).readyCount = r.readyCount +
        (if x.state = .filling ∧ x.written + 1 = r.capacity j ∧ x.discarded = false then 1 else 0) ∧
      ∀ i, i ≠ j → (t.slot l.slot).entry i = r.entry i) ∧
  (∀ (e : Env) (l : StagedLine) (addr : Nat) (queued : Bool) (s : State),
    s.mpt.transfer = some (.stagingWrite l addr queued) → s.sco.state = .scanning →
    s.holdsFrame l.slot l.arrival = false →
    ∃ t, exec (.stagingWriteCompletion e) s = .next t ∧ t.store = (s.arrive e).store)

/-- A scan read's completion hands the source line, as it lies in memory, to the scan that asked for it, while a panel
line that shows it is still to come; frame memory is unchanged. -/
def Obligations.ScanReadDeliversTheLine : Prop :=
  ∀ (e : Env) (r : ScanRead) (addr : Nat) (c : Scan) (p : Placement) (s : State),
    s.mpt.transfer = some (.scanRead r addr true) → s.sco.scan = some c → c.placement = some p →
    c.nextLine ≤ p.lastPanelLine r.line →
    ∃ t, exec (.scanReadCompletion e) s = .next t ∧
      t.sco.scan = some { c with lines := c.lines ++ [(r.line, readPixels s.mpt.frameMemory addr 0 r.width)] } ∧
      t.mpt.frameMemory = s.mpt.frameMemory ∧ t.link = []

/-- A capture read's completion makes the result of the port's open transaction ready: OK, with six bytes for each pixel
as it lies in frame memory. -/
def Obligations.CaptureReadAnswersOk : Prop :=
  ∀ (e : Env) (p : Port) (r : CaptureRead) (addr : Nat) (s : State),
    s.mpt.transfer = some (.captureRead p r addr true) → (s.port p).txn = some .waiting →
    ∃ t, exec (.captureReadCompletion e) s = .next t ∧ t.mpt.capture.get p = none ∧
      (t.port p).txn = some (.ready .ok
        ((readPixels s.mpt.frameMemory addr r.first r.count).flatMap fun x =>
          beBytes 2 x.r.toNat ++ beBytes 2 x.g.toNat ++ beBytes 2 x.b.toNat)) ∧
      t.mpt.frameMemory = s.mpt.frameMemory

/-- The refresh timer's due time adds one to the owed count, which stops at 8, while the timer runs; that it is no event
while the timer is stopped is the model's reading (assumption log 3). A refresh's completion takes one away. Stated
while the panel does not hold, so that the memory does not go to rest at the event. -/
def Obligations.RefreshOwedRisesAndFalls : Prop :=
  ∀ (e : Env) (s : State), s.sco.state ≠ .holding →
    (s.mpt.timerRunning = true →
      ∃ t, exec (.refreshDue e) s = .next t ∧ t.mpt.owed = min (s.mpt.owed + 1) 8) ∧
    (s.mpt.timerRunning = false → exec (.refreshDue e) s = .next (s.arrive e)) ∧
    (s.mpt.transfer = some .refresh →
      ∃ t, exec (.refreshCompletion e) s = .next t ∧ t.mpt.owed = s.mpt.owed - 1)

/-- A capture read still queued when its wait deadline is reached leaves its queue, and its transaction's result is
CAPTURE_LATE with no data. -/
def Obligations.WaitDeadlineEndsTheRead : Prop :=
  ∀ (e : Env) (p : Port) (r : CaptureRead) (s : State),
    s.mpt.capture.get p = some r → s.captureGranted p = false → r.wait.due (s.arrive e).relayTime = true →
    (s.port p).txn = some .waiting →
    ∃ t, exec (.waitDeadline e p) s = .next t ∧ t.mpt.capture.get p = none ∧
      (t.port p).txn = some (.ready .captureLate [])

/-- The memory goes to rest when the panel holds and nobody waits: SELF_REFRESH, no refresh owed, the timer stopped,
every usable slot but the repeat source and the pinned ones FREE, those keeping their frames. A waking memory becomes
ACTIVE when its exit deadline is reached, with nothing owed and the timer running (stated while the panel no longer
holds, so that it does not go back to rest at the event). -/
def Obligations.MemoryRestsAndWakes : Prop :=
  (∀ (e : Env) (s : State), s.mayRest = true →
    ∃ t, exec (.selfRefreshEntry e) s = .next t ∧ t.mpt.power = .selfRefresh ∧ t.mpt.owed = 0 ∧
      t.mpt.timerRunning = false ∧
      ∀ k : Fin 5, k.val < s.store.usable →
        ((s.pacing.repeatSource = some k ∨ (s.slot k).pinHolders.system = true ∨
            (s.slot k).pinHolders.link = true) → (t.slot k) = ((s.arrive e).slot k)) ∧
        ((s.pacing.repeatSource ≠ some k ∧ (s.slot k).pinHolders.system = false ∧
            (s.slot k).pinHolders.link = false) → (t.slot k).state = .free)) ∧
  (∀ (e : Env) (d : Deadline) (s : State),
    s.mpt.power = .waking → s.mpt.exitDeadline = some d → d.due (s.arrive e).relayTime = true →
    s.sco.state ≠ .holding →
    ∃ t, exec (.memoryExitDeadline e) s = .next t ∧ t.mpt.power = .active ∧ t.mpt.exitDeadline = none ∧
      t.mpt.owed = 0 ∧ t.mpt.timerRunning = true ∧ t.mpt.frameMemory = s.mpt.frameMemory)

/-! ## Pacing, scan-out and hold (chapters 4, 5 and 7) -/

/-- The reach of a lead gate that completes a PASS frame's start conditions opens its NEW scan at that event, when it is
the one unscanned frame: a FILLING frame with a ready count of at least Lf, or a DRAINING, COMPLETE or SHORT one (stated
with no panel apply waiting). For a FILLING frame with fewer READY slices the reach is taken and no scan opens. -/
def Obligations.LeadGateOpensTheScan : Prop :=
  (∀ (e : Env) (k : Fin 5) (d : Deadline) (s : State),
    k.val < s.store.usable →
    ((s.slot k).state = .filling ∧ s.contract.lf ≤ (s.slot k).readyCount ∨ (s.slot k).state = .draining ∨
      (s.slot k).state = .complete ∨ (s.slot k).state = .short) →
    (s.slot k).mode = some .pass → (s.slot k).newCount = 0 → (s.slot k).superseded = false →
    (∀ j, j ≠ k → s.unscanned j = false) →
    (s.slot k).leadGate = some d → (s.slot k).leadReached = false → d.due (s.arrive e).relayTime = true →
    s.sco.state = .ready → s.relay.state ≠ .idle → s.pacing.tminReached = true → s.relay.waitingPanel = none →
    ∃ t, exec (.leadGate e k) s = .next t ∧ t.sco.state = .scanning ∧ (t.slot k).newCount = 1 ∧
      (t.slot k).underScan = true ∧ (t.slot k).lag = some ((s.arrive e).relayTime - (s.slot k).arrival) ∧
      t.pacing.presented = some k ∧ t.link.head? = some (.scanOpen .new) ∧
      (t.sco.scan.map fun c => (c.kind, c.slot, c.openTime)) = some (.new, some k, (s.arrive e).relayTime)) ∧
  (∀ (e : Env) (k : Fin 5) (d : Deadline) (s : State),
    (s.slot k).state = .filling → (s.slot k).readyCount < s.contract.lf → (s.slot k).mode = some .pass →
    (∀ j, j ≠ k → s.unscanned j = false) →
    (s.slot k).leadGate = some d → (s.slot k).leadReached = false → d.due (s.arrive e).relayTime = true →
    s.sco.state = .ready →
    ∃ t, exec (.leadGate e k) s = .next t ∧ t.sco = s.sco ∧ t.link = [] ∧ (t.slot k).leadReached = true ∧
      (t.slot k).newCount = (s.slot k).newCount)

/-- The Tmin gate's reach is taken once it is due, while a scan is in progress and no repeat waits for it. With the
scan-out READY, a repeat that waits for it has the hold entry conditions checked again, and either the panel is asked to
hold or a scan opens; no repeat waits afterwards. -/
def Obligations.TminGateIsTaken : Prop :=
  (∀ (e : Env) (d : Deadline) (s : State),
    s.relay.state ≠ .idle → s.tminGate = some d → s.pacing.tminReached = false →
    d.due (s.arrive e).relayTime = true → s.pacing.waitingRepeat = false → s.sco.state = .scanning →
    ∃ t, exec (.tminGate e) s = .next t ∧ t.pacing.tminReached = true ∧ t.store = (s.arrive e).store ∧
      t.sco = s.sco ∧ t.relay = s.relay) ∧
  (∀ (e : Env) (d : Deadline) (s : State),
    s.relay.state ≠ .idle → s.tminGate = some d → s.pacing.tminReached = false →
    d.due (s.arrive e).relayTime = true → s.pacing.waitingRepeat = true → s.sco.state = .ready →
    ∃ t, exec (.tminGate e) s = .next t ∧ t.pacing.waitingRepeat = false ∧
      ((s.arrive e).mayHold = true → t.sco.state = .holding ∧ t.link = [.holdEnter]) ∧
      ((s.arrive e).mayHold = false → t.sco.state = .scanning ∧
        ∃ kind, t.link.head? = some (.scanOpen kind)))

/-- At the repeat deadline the panel is asked to hold when every condition of R124 holds: HOLD_ENTER is sent, the
scan-out holds, and the planned repeats are emptied. Otherwise a scan opens: P_last and the kind are recorded, and
SCAN_OPEN of that kind is sent before panel line 0, which has PW pixels; no panel apply and no overlay commit waits any
more. -/
def Obligations.RepeatDeadlineHoldsOrOpens : Prop :=
  (∀ (e : Env) (d : Deadline) (s : State),
    s.relay.state ≠ .idle → s.sco.state = .ready → s.repeatDeadline = some d →
    d.due (s.arrive e).relayTime = true → (s.arrive e).mayHold = true →
    ∃ t, exec (.repeatDeadline e) s = .next t ∧ t.sco.state = .holding ∧ t.link = [.holdEnter] ∧
      t.sco.lastHoldEntry = some (s.arrive e).relayTime ∧ t.pacing.planned = [] ∧
      t.pacing.waitingRepeat = false ∧ t.pacing.lastOpen = s.pacing.lastOpen) ∧
  (∀ (e : Env) (d : Deadline) (s : State),
    s.relay.state ≠ .idle → s.sco.state = .ready → s.repeatDeadline = some d →
    d.due (s.arrive e).relayTime = true → (s.arrive e).mayHold = false →
    ∃ t kind pixels, exec (.repeatDeadline e) s = .next t ∧ t.sco.state = .scanning ∧
      t.link = [.scanOpen kind, .line 0 pixels] ∧ pixels.length = t.contract.pw ∧
      (t.pacing.lastOpen.map fun o => (o.time, o.kind)) = some ((s.arrive e).relayTime, kind) ∧
      t.pacing.tminReached = false ∧ t.pacing.waitingRepeat = false ∧ t.relay.waitingPanel = none ∧
      t.ovl.waiting = none)

/-- A planned repeat reached while a scan is in progress and the Tmin gate has not been reached leaves the list and
waits for the gate, and nothing is sent. Reached after the gate with the scan-out READY, and hold not to be entered, it
opens a scan at that event. -/
def Obligations.PlannedRepeatOpensOrWaits : Prop :=
  (∀ (e : Env) (d : Deadline) (rest : List Deadline) (s : State),
    s.relay.state ≠ .idle → s.sco.state = .scanning → s.pacing.planned = d :: rest →
    d.due (s.arrive e).relayTime = true → s.pacing.tminReached = false →
    ∃ t, exec (.plannedRepeat e) s = .next t ∧ t.pacing.planned = rest ∧ t.pacing.waitingRepeat = true ∧
      t.sco = s.sco ∧ t.link = []) ∧
  (∀ (e : Env) (d : Deadline) (rest : List Deadline) (s : State),
    s.relay.state ≠ .idle → s.sco.state = .ready → s.pacing.planned = d :: rest →
    d.due (s.arrive e).relayTime = true → s.pacing.tminReached = true → (s.arrive e).mayHold = false →
    ∃ t kind, exec (.plannedRepeat e) s = .next t ∧ t.sco.state = .scanning ∧
      t.link.head? = some (.scanOpen kind) ∧
      (t.pacing.lastOpen.map fun o => (o.time, o.kind)) = some ((s.arrive e).relayTime, kind))

/-- Grace expires at its end: the flag and the end are cleared and the planned repeats emptied. Stated in BORDER while a
scan is in progress. -/
def Obligations.GraceExpires : Prop :=
  ∀ (e : Env) (d : Deadline) (s : State),
    s.relay.state = .border → s.relay.graceFlag = true → s.relay.graceEnd = some d →
    d.due (s.arrive e).relayTime = true → s.sco.state = .scanning →
    ∃ t, exec (.graceExpiry e) s = .next t ∧ t.relay.graceFlag = false ∧ t.relay.graceEnd = none ∧
      t.pacing.planned = [] ∧ t.pacing.waitingRepeat = false ∧ t.relay.state = .border ∧ t.usesIdle = true

/-- The scan reaches its next panel line at P + floor(S × y / PH): one LINE of PW pixels is sent, and the next line is
one on. In a BORDER scan, and outside the source region, the LINE is the border colour under the overlay planes of the
active list. Inside it, the slice's decision names the source: for a line whose read has been delivered, each source
pixel stands s times in its place with the border colour at its sides; for a slice decided BORDER, or a read not
delivered, the source part is border colour, and in the second case a GOOD slice becomes LATE. The slice whose fetch
line is reached is decided SCANNED if its entry is READY, otherwise FALLBACK if the usable fallback's entry, of another
slot, is READY, otherwise BORDER; the class is GOOD, LATE or DAMAGED by the scanned entry, the counts follow, and the
reads of its source lines are requested from the chosen slot in ascending order (the fetch is stated with the entries
read having good check bits). -/
def Obligations.ScanLineSendsOneLine : Prop :=
  (∀ (e : Env) (c : Scan) (s : State),
    s.sco.state = .scanning → s.sco.scan = some c → c.nextLine < c.ph →
    c.span * c.nextLine / c.ph ≤ ((s.arrive e).relayTime - c.openTime).toNat →
    ∃ t pixels, exec (.scanLine e) s = .next t ∧ t.link = [.line c.nextLine pixels] ∧ pixels.length = c.pw ∧
      (t.sco.scan.map fun x => x.nextLine) = some (c.nextLine + 1) ∧ t.sco.state = .scanning ∧
      ((c.placement = none ∨ ∃ p, c.placement = some p ∧
          (c.nextLine < p.y0 ∨ p.y0 + p.scale * p.height ≤ c.nextLine)) →
        pixels = s.ovl.composeLine c.nextLine (List.replicate c.pw c.border))) ∧
  (∀ (e : Env) (c : Scan) (p : Placement) (line j : Nat) (d : SliceDecision) (s : State),
    s.sco.state = .scanning → s.sco.scan = some c → c.placement = some p → 0 < c.nextLine → c.nextLine < c.ph →
    c.span * c.nextLine / c.ph ≤ ((s.arrive e).relayTime - c.openTime).toNat →
    0 < p.scale → 0 < p.sliceHeight → p.y0 ≤ c.nextLine → c.nextLine < p.y0 + p.scale * p.height →
    line = (c.nextLine - p.y0) / p.scale → j = line / p.sliceHeight → c.decisions[j]? = some d →
    ∃ t pixels, exec (.scanLine e) s = .next t ∧
      t.link = [.line c.nextLine (s.ovl.composeLine c.nextLine pixels)] ∧
      (d.choice = .border → pixels = List.replicate c.pw c.border) ∧
      ((d.choice = .scanned ∨ d.choice = .fallback) →
        (∀ row, (c.lines.find? fun x => decide (x.1 = line)) = some (line, row) →
          pixels = (List.range c.pw).map fun x =>
            if p.x0 ≤ x ∧ x < p.x0 + p.scale * p.width then row[(x - p.x0) / p.scale]?.getD c.border
            else c.border) ∧
        ((c.lines.find? fun x => decide (x.1 = line)) = none →
          pixels = List.replicate c.pw c.border ∧
          (t.sco.scan.map fun x => (x.drewBorder, x.decisions[j]?)) =
            some (true, some { d with cls := if d.cls = some .good then some .late else d.cls })))) ∧
  (∀ (e : Env) (c : Scan) (p : Placement) (k : Fin 5) (j : Nat) (s : State),
    s.sco.state = .scanning → s.sco.scan = some c → c.placement = some p → c.slot = some k →
    0 < c.nextLine → c.nextLine < c.ph →
    c.span * c.nextLine / c.ph ≤ ((s.arrive e).relayTime - c.openTime).toNat →
    0 < p.scale → 0 < p.sliceHeight → j < p.slices → j < c.decisions.length →
    p.y0 + p.scale * p.sliceHeight * j = c.nextLine + 2 * p.scale * p.sliceHeight →
    (((s.arrive e).slot k).entry j).check = .good →
    (∀ b, c.fallback = some b → (((s.arrive e).slot b).entry j).check = .good) →
    ∃ t d, exec (.scanLine e) s = .next t ∧ (t.sco.scan.bind fun x => x.decisions[j]?) = some d ∧
      ((((s.slot k).entry j).state = .ready) → d = { choice := .scanned, cls := some .good }) ∧
      ((((s.slot k).entry j).state = .empty ∨ ((s.slot k).entry j).state = .filling) → d.cls = some .late) ∧
      ((((s.slot k).entry j).state = .damaged) → d.cls = some .damaged) ∧
      ((((s.slot k).entry j).state ≠ .ready) →
        d.choice = (if c.fallbackUsable = true ∧
          (∃ b, c.fallback = some b ∧ b ≠ k ∧ ((s.slot b).entry j).state = .ready) then .fallback else .border)) ∧
      (t.sco.scan.map fun x => (x.damaged, x.bordered)) =
        some (c.damaged + (if d.cls = some .damaged then 1 else 0), c.bordered + (if d.choice = .border then 1 else 0)) ∧
      ((c.nextLine < p.y0 ∨ p.y0 + p.scale * p.height ≤ c.nextLine) →
        (t.sco.scan.map fun x => x.late) = some (c.late + (if d.cls = some .late then 1 else 0))) ∧
      (s.mpt.transfer ≠ none →
        t.mpt.scanReads = s.mpt.scanReads ++ (match (if d.choice = .scanned then some k else
            if d.choice = .fallback then c.fallback else none) with
          | some b => (p.linesOf j).map fun y => { slot := b, line := y, width := p.width }
          | none => [])))

/-- The scan reaches its close at P + S with every line drawn: SCAN_CLOSE is sent first, and the last-scan part takes
the scan's summary with the ending CLOSED. At the close of a NEW scan the frame's record joins the ring with the next
sequence number, P and the lag, the scan's counts and SUBSTITUTED flag, and the repeats since the record before it; the
slot is recorded and no longer under scan; LATE_SLICES is raised if any slice was late; and for a PASS frame the penalty
level and the clean count follow the late count. The close of a REPEAT or BORDER scan appends nothing and changes
neither. In each case the scan-out is READY, no scan read waits, and the repeat source is re-evaluated in full. What
follows SCAN_CLOSE is stated while the Tmin gate has not been reached, so that no scan opens at the event. The slot also
takes the late count, which its status view shows (the model's choice, assumption log 36). The repeat source that the
re-evaluation gives is, of COMPLETE slots with equal stamps, the lowest-numbered (the model's choice, assumption log 43).
-/
def Obligations.ScanCloseReportsTheScan : Prop :=
  (∀ (e : Env) (c : Scan) (s : State),
    s.sco.scan = some c → c.nextLine = c.ph → c.span ≤ ((s.arrive e).relayTime - c.openTime).toNat →
    ∃ t, exec (.scanClose e) s = .next t ∧ t.link.head? = some .scanClose ∧
      t.sco.lastScan = some (c.summary .closed)) ∧
  (∀ (e : Env) (c : Scan) (k : Fin 5) (s : State),
    s.sco.scan = some c → c.nextLine = c.ph → c.span ≤ ((s.arrive e).relayTime - c.openTime).toNat →
    c.kind = .new → c.slot = some k → s.pacing.tminReached = false → s.pacing.lastOpen ≠ none →
    ∃ t, exec (.scanClose e) s = .next t ∧ t.link = [.scanClose] ∧ t.sco.state = .ready ∧ t.sco.scan = none ∧
      t.mpt.scanReads = [] ∧ (t.slot k).underScan = false ∧ (t.slot k).recorded = true ∧
      (t.slot k).lateSlices = c.late ∧
      t.pacing.repeatSource = t.properRepeat ∧
      t.records.ring.getLast? = some
        { sequence := s.records.nextSequence, frameNumber := (s.slot k).frameNumber, slot := k,
          mode := (s.slot k).mode, short := decide ((s.slot k).state = .short), superseded := false,
          concealed := decide ((s.slot k).concealedLines ≠ 0), substituted := c.substituted,
          arrival := (s.slot k).arrival,
          delivery := if (s.slot k).state = .complete then (s.slot k).delivery else none,
          lead := (s.slot k).lead, presented := some (c.openTime, (s.slot k).lag.getD 0), late := c.late,
          damaged := c.damaged, concealedLines := (s.slot k).concealedLines, repeats := s.records.repeatTally } ∧
      t.records.nextSequence = s.records.nextSequence + 1 ∧ t.records.repeatTally = 0 ∧
      (∀ q, 1 ≤ c.late → ((t.port q).flags .lateSlices).pending = true) ∧
      (∀ q, c.late = 0 → (t.port q).flags .lateSlices = (s.port q).flags .lateSlices) ∧
      ((s.slot k).mode = some .pass →
        (t.pacing.penalty, t.pacing.clean) =
          (if 1 ≤ c.late then (min (s.pacing.penalty + 1) 4, 0)
          else if s.pacing.clean < 15 then (s.pacing.penalty, s.pacing.clean + 1) else (s.pacing.penalty - 1, 0))) ∧
      ((s.slot k).mode ≠ some .pass →
        t.pacing.penalty = s.pacing.penalty ∧ t.pacing.clean = s.pacing.clean)) ∧
  (∀ (e : Env) (c : Scan) (s : State),
    s.sco.scan = some c → c.nextLine = c.ph → c.span ≤ ((s.arrive e).relayTime - c.openTime).toNat →
    c.kind ≠ .new → s.pacing.tminReached = false → s.pacing.lastOpen ≠ none →
    ∃ t, exec (.scanClose e) s = .next t ∧ t.link = [.scanClose] ∧ t.sco.state = .ready ∧ t.sco.scan = none ∧
      t.mpt.scanReads = [] ∧ (∀ k, c.slot = some k → (t.slot k).underScan = false) ∧ t.records = s.records ∧
      t.pacing.penalty = s.pacing.penalty ∧ t.pacing.clean = s.pacing.clean ∧
      t.pacing.repeatSource = t.properRepeat ∧
      ∀ q, (t.port q).flags .lateSlices = (s.port q).flags .lateSlices)

/-- The rise of PANEL READY completes a wake: a scan opens at that event and the ending is READY; outside a wake it only
raises the pin's level. The wake deadline's reach with PANEL READY low raises PANEL_LATE and completes the wake: a scan
opens at that event and the ending is LATE. Both are stated with the Tmin gate reached, its reach taken or its time
come, as R129 says it is. Before it no scan opens: the scan-out is READY, and the open waits for the gate (R84; the
model's reading of a wake that completes so early, assumption log 27). -/
def Obligations.WakeCompletesWithAnOpen : Prop :=
  (∀ (e : Env) (s : State),
    (s.sco.state = .waking →
      (s.pacing.tminReached = true ∨ ∀ d, s.tminGate = some d → d.due (s.arrive e).relayTime = true) →
      ∃ t kind, exec (.panelReadyRise e) s = .next t ∧ t.sco.state = .scanning ∧
        t.sco.lastWakeEnding = some .ready ∧ t.sco.wakeDeadline = none ∧ t.panelReady = true ∧
        t.link.head? = some (.scanOpen kind)) ∧
    (s.sco.state ≠ .waking → exec (.panelReadyRise e) s = .next { s.arrive e with panelReady := true })) ∧
  (∀ (e : Env) (d : Deadline) (s : State),
    s.sco.state = .waking → s.sco.wakeDeadline = some d → d.due (s.arrive e).relayTime = true →
    (s.arrive e).panelReady = false →
    (s.pacing.tminReached = true ∨ ∀ g, s.tminGate = some g → g.due (s.arrive e).relayTime = true) →
    ∃ t kind, exec (.wakeDeadline e) s = .next t ∧ t.sco.state = .scanning ∧
      t.sco.lastWakeEnding = some .late ∧ t.link.head? = some (.scanOpen kind) ∧
      ∀ p, ((t.port p).flags .panelLate).pending = true) ∧
  (∀ (e : Env) (g : Deadline) (s : State),
    s.sco.state = .waking → s.pacing.tminReached = false → s.tminGate = some g →
    g.due (s.arrive e).relayTime = false →
    ∃ t, exec (.panelReadyRise e) s = .next t ∧ t.sco.state = .ready ∧ t.sco.lastWakeEnding = some .ready ∧
      t.sco.wakeDeadline = none ∧ t.pacing.waitingRepeat = true ∧ t.pacing.lastOpen = s.pacing.lastOpen ∧ t.link = [])

/-! ## Overlay planes (chapter 6) -/

/-- The blend of one pixel: combined alpha from plane and palette alpha, weight from it, and each component by the same
weight in integer arithmetic. A palette alpha of 255 gives the plane alpha, an alpha of 255 shows the plane's colour and
an alpha of 0 the base. -/
def Obligations.BlendOfOnePixel : Prop :=
  ∀ (base top : Rgb) (pa la a e : Nat), pa ≤ 255 → la ≤ 255 → a = (pa * la + 127) / 255 → e = a + a / 128 →
    a ≤ 255 ∧ e ≤ 256 ∧
    (blend base top (blendWeight (combinedAlpha pa la))).r.toNat =
      (base.r.toNat * (256 - e) + top.r.toNat * e + 128) / 256 ∧
    (blend base top (blendWeight (combinedAlpha pa la))).g.toNat =
      (base.g.toNat * (256 - e) + top.g.toNat * e + 128) / 256 ∧
    (blend base top (blendWeight (combinedAlpha pa la))).b.toNat =
      (base.b.toNat * (256 - e) + top.b.toNat * e + 128) / 256 ∧
    (la = 255 → a = pa) ∧ (a = 255 → blend base top (blendWeight (combinedAlpha pa la)) = top) ∧
    (a = 0 → blend base top (blendWeight (combinedAlpha pa la)) = base)

/-! ## Port transactions (chapter 11). Stated for a port with no open capture transaction. -/

/-- A READ of a region other than the identification and the capture window, by a port that may read it, ends OK or
BAD_ADDRESS by whether its data run past the region, with the region's bytes shifted out after the previous status and
three zeros. Nothing but the port's own record of the transaction changes. -/
def Obligations.ReadReturnsTheRegion : Prop :=
  ∀ (e : Env) (p : Port) (addr : BitVec 24) (n : Nat) (r : Region) (off : Nat) (s : State),
    (s.port p).txn = none → regionOf addr.toNat = some (r, off) → r ≠ .captureWindow → 4 ≤ addr.toNat →
    s.mayRead p r = true →
    exec (.read e p addr n) s = .next ((s.arrive e).setPort p
      { s.port p with
        prevStatus := if off + n ≤ r.size then .ok else .badAddress
        txn := none
        dataOut := [(s.port p).prevStatus.code, 0, 0, 0] ++ (s.arrive e).regionBytes p r off n })

/-- A READ of a region that the port may not read, a READ in the capture window by a port without the pin right, and a
WRITE or MASKED_WRITE to a region or bytes that the port may not write, the relay mode word and the event view among
them, are denied accesses: every data byte out is 0, the status DENIED, the denial in the port's trap, ACCESS_DENIED
pending in both sets, and nothing else of the ports or of the part changes (the structure DeniedAccess of
Sys2Proof/Safety.lean). -/
def Obligations.DeniedAccessIsTrapped : Prop :=
  (∀ (e : Env) (p : Port) (addr : BitVec 24) (n : Nat) (r : Region) (off : Nat) (s : State),
    (s.port p).txn = none → regionOf addr.toNat = some (r, off) → r ≠ .captureWindow → s.mayRead p r = false →
    ∃ t, exec (.read e p addr n) s = .next t ∧ DeniedAccess (s.arrive e) t p 0x01 addr n) ∧
  (∀ (e : Env) (p : Port) (off : BitVec 23) (n : Nat) (s : State),
    (s.port p).txn = none → s.hasRight p .pin = false →
    ∃ t, exec (.captureWindowRead e p off n) s = .next t ∧
      DeniedAccess (s.arrive e) t p 0x01 (BitVec.ofNat 24 (0x800000 + off.toNat)) n) ∧
  (∀ (e : Env) (p : Port) (addr : BitVec 24) (data : List Byte) (r : Region) (off : Nat) (s : State),
    (s.port p).txn = none → regionOf addr.toNat = some (r, off) →
    (s.mayWrite p r off data.length = false →
      ∃ t, exec (.write e p addr data) s = .next t ∧ DeniedAccess (s.arrive e) t p 0x02 addr data.length) ∧
    (s.mayWrite p r off (data.length / 2) = false →
      ∃ t, exec (.maskedWrite e p addr data) s = .next t ∧ DeniedAccess (s.arrive e) t p 0x03 addr data.length)) ∧
  (∀ (e : Env) (p : Port) (masked : Bool) (data : List Byte) (s : State),
    (s.port p).txn = none → s.hasRight p .modeFields = false →
    ∃ t, exec (.relayModeWordWrite e p masked data) s = .next t ∧
      DeniedAccess (s.arrive e) t p (if masked then 0x03 else 0x02) 0x001000 data.length) ∧
  (∀ (e : Env) (p : Port) (masked second : Bool) (data : List Byte) (s : State),
    (s.port p).txn = none →
    (if second then 1 else 2) < (if masked then data.length / 2 else data.length) →
    ∃ t, exec (.enablesWrite e p masked second data) s = .next t ∧
      DeniedAccess (s.arrive e) t p (if masked then 0x03 else 0x02) (if second then 0x000007 else 0x000006) data.length)

/-- A WRITE to overlay memory by a port with the overlay right stores its bytes from the address upward, those within
the memory, and leaves every other byte; the status says whether the data ran past the end. A WRITE to the pending input
copy, the pending panel copy or the pending overlay list, by a port with the right for it, is held as written: each byte
of the region reached by the data reads as the bits of it that hold a field, unchecked, and every other byte of it as
before; the active contracts and the active list stay as they are. That bits 1 to 7 of a plane's Enable byte and the top 4
bits of its x, y, width and height read 0 after a write that sets them is the model's choice (assumption log 35). -/
def Obligations.WriteStoresInOverlayMemory : Prop :=
  (∀ (e : Env) (p : Port) (addr : BitVec 24) (data : List Byte) (s : State),
    (s.port p).txn = none → 0x010000 ≤ addr.toNat → addr.toNat < 0x020000 → s.hasRight p .overlay = true →
    ∃ t, exec (.write e p addr data) s = .next t ∧
      (t.port p).prevStatus = (if addr.toNat + data.length ≤ 0x020000 then .ok else .badAddress) ∧
      (∀ i, i < data.length → addr.toNat + i < 0x020000 →
        some (readByte t.ovl.memory (addr.toNat - 0x010000 + i)) = data[i]?) ∧
      (∀ a, (a < addr.toNat - 0x010000 ∨ addr.toNat - 0x010000 + data.length ≤ a ∨ 0x010000 ≤ a) →
        readByte t.ovl.memory a = readByte s.ovl.memory a) ∧
      t.mpt = s.mpt ∧ t.store = (s.arrive e).store ∧ t.lra = s.lra ∧ t.ovl.pendingList = s.ovl.pendingList ∧
      t.ovl.active = s.ovl.active) ∧
  (∀ (e : Env) (p : Port) (off : Nat) (data : List Byte) (s : State),
    (s.port p).txn = none → off < 64 → s.hasRight p .input = true →
    ∃ t, exec (.write e p (BitVec.ofNat 24 (0x002000 + off)) data) s = .next t ∧
      (t.port p).prevStatus = (if off + data.length ≤ 64 then .ok else .badAddress) ∧
      t.peu.pendingInput.bytes = (List.range 4).map (writtenByte s.peu.pendingInput.bytes off data inputHeld) ∧
      t.peu.pendingPanel = s.peu.pendingPanel ∧ t.peu.modeWord = s.peu.modeWord ∧
      { t with peu := s.peu } = { s.arrive e with peu := s.peu }) ∧
  (∀ (e : Env) (p : Port) (off : Nat) (data : List Byte) (s : State),
    (s.port p).txn = none → off < 64 → s.hasRight p .panel = true →
    ∃ t, exec (.write e p (BitVec.ofNat 24 (0x003000 + off)) data) s = .next t ∧
      (t.port p).prevStatus = (if off + data.length ≤ 64 then .ok else .badAddress) ∧
      t.peu.pendingPanel.bytes = (List.range 44).map (writtenByte s.peu.pendingPanel.bytes off data panelHeld) ∧
      t.peu.pendingInput = s.peu.pendingInput ∧ t.peu.modeWord = s.peu.modeWord ∧
      { t with peu := s.peu } = { s.arrive e with peu := s.peu }) ∧
  (∀ (e : Env) (p : Port) (off : Nat) (data : List Byte) (s : State),
    (s.port p).txn = none → off < 512 → s.hasRight p .overlay = true →
    ∃ t, exec (.write e p (BitVec.ofNat 24 (0x004000 + off)) data) s = .next t ∧
      (t.port p).prevStatus = (if off + data.length ≤ 512 then .ok else .badAddress) ∧
      t.ovl.pendingList.toList.flatMap Plane.bytes = (List.range 512).map
        (writtenByte (s.ovl.pendingList.toList.flatMap Plane.bytes) off data fun j => planeHeld (j % 64)) ∧
      { t with ovl := s.ovl, peu := s.peu } = { s.arrive e with peu := s.peu } ∧
      { t.ovl with pendingList := s.ovl.pendingList } = s.ovl ∧
      { t.peu with ports := s.peu.ports } = s.peu)

/-- A MASKED_WRITE of one pair to the expiry setting by a port with the pin right takes the mask's bits of the value and
keeps the others; the other port's setting and every pin stay. -/
def Obligations.MaskedWriteMergesBits : Prop :=
  ∀ (e : Env) (p : Port) (mask value : Byte) (s : State),
    (s.port p).txn = none → s.hasRight p .pin = true →
    ∃ t, exec (.maskedWrite e p 0x030000 [mask, value]) s = .next t ∧ (t.port p).prevStatus = .ok ∧
      (∀ i, (t.store.expiry.get p).getLsbD i =
        (if mask.getLsbD i then value.getLsbD i else (s.store.expiry.get p).getLsbD i)) ∧
      (∀ q, q ≠ p → t.store.expiry.get q = s.store.expiry.get q) ∧ t.store.pins = s.store.pins ∧
      t.store.slots = (s.arrive e).store.slots ∧ t.ovl = s.ovl ∧ t.mpt = s.mpt

/-- A write to the relay mode word by a port that owns fields of it: each field whose bits the mask reaches takes its
new bits if the port owns it and LOWLAG_POLICY would not become 3; every other field keeps its own; bit 7 reads 0. The
status is PARTIAL when a selected field stayed, or none was selected. Stated outside DEGRADED, where clearing
CONCEAL_PERMIT has no further effect. -/
def Obligations.ModeWordWriteByField : Prop :=
  ∀ (e : Env) (p : Port) (mask value : Byte) (s : State),
    (s.port p).txn = none → s.hasRight p .modeFields = true → s.lra.aligner ≠ .degraded →
    ∃ t, exec (.relayModeWordWrite e p true [mask, value]) s = .next t ∧
      (∀ f ∈ ([0x03, 0x04, 0x08, 0x10, 0x20, 0x40] : List Byte),
        t.peu.modeWord &&& f =
          (if mask &&& f ≠ 0 ∧ ownedMask s.peu.profile p &&& f ≠ 0 ∧
              ¬(f = 0x03 ∧ mergeByte s.peu.modeWord mask value &&& 0x03 = 0x03)
            then mergeByte s.peu.modeWord mask value else s.peu.modeWord) &&& f) ∧
      t.peu.modeWord.getLsbD 7 = false ∧
      ((t.port p).prevStatus = .partialWrite ↔
        mask &&& 0x7F = 0 ∨ ∃ f ∈ ([0x03, 0x04, 0x08, 0x10, 0x20, 0x40] : List Byte), mask &&& f ≠ 0 ∧
          (ownedMask s.peu.profile p &&& f = 0 ∨
            (f = 0x03 ∧ mergeByte s.peu.modeWord mask value &&& 0x03 = 0x03))) ∧
      ((t.port p).prevStatus = .ok ∨ (t.port p).prevStatus = .partialWrite) ∧
      { t with peu := s.peu } = { s.arrive e with peu := s.peu }

/-- Clearing CONCEAL_PERMIT in DEGRADED is a loss of lock: the aligner in SEARCH with LOCK_LOST pending in both sets.
Stated for a port that owns the field. -/
def Obligations.ClearingConcealLosesLock : Prop :=
  ∀ (e : Env) (p : Port) (s : State),
    (s.port p).txn = none → ownedMask s.peu.profile p &&& 0x40 ≠ 0 → s.lra.aligner = .degraded →
    s.concealPermit = true →
    ∃ t, exec (.relayModeWordWrite e p true [0x40, 0x00]) s = .next t ∧ t.concealPermit = false ∧
      t.lra.aligner = .search ∧ t.lra.searchRun = 0 ∧ (t.port p).prevStatus = .ok ∧
      ∀ q, ((t.port q).flags .lockLost).pending = true

/-- A two-byte WRITE of the enables sets the port's own twelve enables; its interrupt line follows. A WRITE of one of the
two bytes, and a MASKED_WRITE of either or both, sets the enables whose bits it addresses, those of the first byte being
causes 9 to 12 and those of the second causes 1 to 8, and leaves the others. In every form the causes, the freeze and the
trap, the other port and the rest of the part stay as they are. -/
def Obligations.EnablesWriteSetsTheLine : Prop :=
  (∀ (e : Env) (p : Port) (hi lo : Byte) (s : State), (s.port p).txn = none →
    ∃ t, exec (.enablesWrite e p false false [hi, lo]) s = .next t ∧ (t.port p).prevStatus = .ok ∧
      (t.port p).enables = BitVec.ofNat 12 (hi.toNat * 256 + lo.toNat) ∧
      (t.port p).causes = (s.port p).causes ∧ (t.port p).frozen = (s.port p).frozen ∧
      ((t.port p).line = true ↔ ∃ c ∈ allCauses, ((s.port p).flags c).pending = true ∧
        (hi.toNat * 256 + lo.toNat).testBit (c.number - 1) = true) ∧
      (t.port p).trap = (s.port p).trap ∧ { t.peu with ports := s.peu.ports } = s.peu ∧
      (∀ q, q ≠ p → t.port q = s.port q) ∧
      { t with peu := s.peu } = { s.arrive e with peu := s.peu }) ∧
  (∀ (e : Env) (p : Port) (hm hv lm lv : Byte) (masked second : Bool) (data : List Byte) (s : State),
    (s.port p).txn = none →
    (masked, second, data, hm, hv, lm, lv) ∈
      [(false, false, [hv], 0xFF, hv, 0, 0), (false, true, [lv], 0, 0, 0xFF, lv),
       (true, false, [hm, hv], hm, hv, 0, 0), (true, true, [lm, lv], 0, 0, lm, lv),
       (true, false, [hm, hv, lm, lv], hm, hv, lm, lv)] →
    ∃ t, exec (.enablesWrite e p masked second data) s = .next t ∧ (t.port p).prevStatus = .ok ∧
      (∀ i, i < 12 → (t.port p).enables.getLsbD i =
        (if i < 8 then (if lm.getLsbD i then lv.getLsbD i else (s.port p).enables.getLsbD i)
          else (if hm.getLsbD (i - 8) then hv.getLsbD (i - 8) else (s.port p).enables.getLsbD i))) ∧
      (t.port p).causes = (s.port p).causes ∧ (t.port p).frozen = (s.port p).frozen ∧
      (t.port p).trap = (s.port p).trap ∧ { t.peu with ports := s.peu.ports } = s.peu ∧
      (∀ q, q ≠ p → t.port q = s.port q) ∧
      { t with peu := s.peu } = { s.arrive e with peu := s.peu })

/-- A READ that starts in the identification freezes it on the cause it names, if it names one, and returns that cause;
the other port's identification is untouched. That the bytes out are the image as it stood before the freeze, with the
frozen flag of that time, is the model's reading (assumption log 17). -/
def Obligations.IdentificationReadFreezes : Prop :=
  ∀ (e : Env) (p : Port) (off : Fin 4) (n : Nat) (s : State), (s.port p).txn = none →
    ∃ t, exec (.identificationRead e p off n) s = .next t ∧ (t.port p).frozen = (s.port p).named ∧
      (t.port p).named = (s.port p).named ∧
      (t.port p).dataOut = [(s.port p).prevStatus.code, 0, 0, 0] ++ s.regionBytes p .eventView off.val n ∧
      (t.port p).causes = (s.port p).causes ∧ (∀ q, q ≠ p → t.port q = s.port q) ∧
      { t with peu := s.peu } = { s.arrive e with peu := s.peu }

/-- A READ in the capture window by a port without a pin ends NO_PIN with the start byte and zeros, and nothing is
queued. Of a pixel inside the pinned frame it is queued at the memory port, names the pinned slot and stamp, the line,
and at most 640 pixels, with its wait deadline 500 µs on, and its transaction waits (this part is stated while a
transfer is in progress and the memory ACTIVE, so that it is not granted at once). -/
def Obligations.CaptureReadNeedsAPinAndWaits : Prop :=
  (∀ (e : Env) (p : Port) (off : BitVec 23) (n : Nat) (s : State),
    (s.port p).txn = none → s.hasRight p .pin = true → s.store.pins.get p = none →
    exec (.captureWindowRead e p off (n + 1)) s = .next ((s.arrive e).setPort p
      { s.port p with
        prevStatus := .noPin, txn := none
        dataOut := [(s.port p).prevStatus.code, 0, 0, 0] ++ 0xA5 :: List.replicate n 0 })) ∧
  (∀ (e : Env) (p : Port) (off : BitVec 23) (n : Nat) (x : Pin) (s : State),
    (s.port p).txn = none → s.hasRight p .pin = true → s.store.pins.get p = some x →
    off.toNat / 3840 < (s.slot x.slot).height → off.toNat % 3840 < (s.slot x.slot).width →
    s.mpt.transfer ≠ none → s.mpt.power = .active →
    ∃ t, exec (.captureWindowRead e p off n) s = .next t ∧ (t.port p).txn = some .waiting ∧
      t.mpt.capture.get p = some
        { slot := x.slot, arrival := x.arrival, line := off.toNat / 3840, first := off.toNat % 3840,
          count := min 640 ((s.slot x.slot).width - off.toNat % 3840),
          wait := { origin := (s.arrive e).relayTime, span := 500 } } ∧
      (t.port p).prevStatus = (s.port p).prevStatus)

/-- The select line released before the result is ready ends the transaction CAPTURE_LATE, and the read leaves its
queue; released after it, the transaction ends with the result's status, the start byte and the data, as far as they
were clocked. That this holds of a release before the start byte too is the model's choice (assumption log 16), and so
is that a granted read leaves its queue at the release (assumption log 32). -/
def Obligations.SelectReleaseEndsTheTransaction : Prop :=
  ∀ (e : Env) (p : Port) (fillers count : Nat) (s : State),
    ((s.port p).txn = some .waiting →
      ∃ t, exec (.selectRelease e p fillers count) s = .next t ∧ (t.port p).txn = none ∧
        (t.port p).prevStatus = .captureLate ∧ t.mpt.capture.get p = none ∧
        (t.port p).dataOut = [(s.port p).prevStatus.code, 0, 0, 0] ++ List.replicate count 0) ∧
    ∀ st data, (s.port p).txn = some (.ready st data) →
      exec (.selectRelease e p fillers count) s = .next ((s.arrive e).setPort p
        { s.port p with
          prevStatus := st, txn := none
          dataOut := [(s.port p).prevStatus.code, 0, 0, 0] ++
            (List.replicate fillers 0 ++ 0xA5 :: data ++ List.replicate count 0).take count })

/-! ## Requests -/

/-- A request by a port without the right it needs is refused: NOT_PERMITTED, a 0 out for each data byte sent with it,
and nothing but the port's record of the transaction changes. -/
def Obligations.RequestsNeedTheirRight : Prop :=
  ∀ (e : Env) (p : Port) (data : List Byte) (s : State), (s.port p).txn = none →
    ∀ (c : Instr) (r : Right),
      (c, r) ∈ [(Instr.applyInput e ⟨p, data⟩, Right.input), (.applyPanel e ⟨p, data⟩, .panel),
        (.commitOverlay e ⟨p, data⟩, .overlay), (.pin e ⟨p, data⟩, .pin), (.release e ⟨p, data⟩, .pin),
        (.realign e ⟨p, data⟩, .input), (.relayReset e ⟨p, data⟩, .relayReset), (.nextRecord e ⟨p, data⟩, .records),
        (.laneTestOn e ⟨p, data⟩, .input), (.laneTestOff e ⟨p, data⟩, .input)] →
      s.hasRight p r = false →
      exec c s = .next ((s.arrive e).setPort p
        { s.port p with
          prevStatus := .notPermitted, txn := none
          dataOut := [(s.port p).prevStatus.code, 0, 0, 0] ++ List.replicate data.length 0 })

/-- APPLY_INPUT: WAITING while one waits and INVALID for a reserved encoding, with nothing changed; otherwise OK. Taken
while a frame is received, the snapshot waits; taken in SEARCH, with no frame received, it takes effect at once: the
contract is active, CONTRACT_APPLIED is pending in both sets. -/
def Obligations.ApplyInputAnswers : Prop :=
  ∀ (e : Env) (p : Port) (data : List Byte) (s : State), (s.port p).txn = none → s.hasRight p .input = true →
    (s.relay.waitingInput ≠ none →
      exec (.applyInput e ⟨p, data⟩) s = .next ((s.arrive e).endTxn p .waiting (zeros data.length))) ∧
    (s.relay.waitingInput = none → s.peu.pendingInput.valid = false →
      exec (.applyInput e ⟨p, data⟩) s = .next ((s.arrive e).endTxn p .invalid (zeros data.length))) ∧
    (s.relay.waitingInput = none → s.peu.pendingInput.valid = true →
      (s.lra.assembly = .receiving → s.lra.frame ≠ none → s.lra.aligner ≠ .search → s.lra.testOn = false →
        exec (.applyInput e ⟨p, data⟩) s = .next
          (State.endTxn { s.arrive e with relay.waitingInput := some s.peu.pendingInput } p .ok (zeros data.length))) ∧
      (s.lra.assembly ≠ .receiving → s.lra.aligner = .search →
        ∃ t, exec (.applyInput e ⟨p, data⟩) s = .next t ∧ (t.port p).prevStatus = .ok ∧
          t.relay.input = s.peu.pendingInput ∧ t.relay.waitingInput = none ∧
          (∀ l, (t.lane l).missCount = (if s.peu.pendingInput.missLimit = 0 then 0
            else min (s.lane l).missCount s.peu.pendingInput.missLimit)) ∧
          ∀ q, ((t.port q).flags .contractApplied).pending = true))

/-- APPLY_PANEL: WAITING while one waits and INVALID for a value out of its range, with nothing changed. The first valid
one, in IDLE, takes effect at once: the contract is active, U follows the geometry, every slot is FREE but for the
scan's marks, the relay leaves IDLE, and a scan opens. Later ones wait for the next open. -/
def Obligations.ApplyPanelAnswers : Prop :=
  ∀ (e : Env) (p : Port) (data : List Byte) (s : State), (s.port p).txn = none → s.hasRight p .panel = true →
    (s.relay.waitingPanel ≠ none →
      exec (.applyPanel e ⟨p, data⟩) s = .next ((s.arrive e).endTxn p .waiting (zeros data.length))) ∧
    (s.relay.waitingPanel = none → s.peu.pendingPanel.valid = false →
      exec (.applyPanel e ⟨p, data⟩) s = .next ((s.arrive e).endTxn p .invalid (zeros data.length))) ∧
    (s.relay.waitingPanel = none → s.peu.pendingPanel.valid = true →
      (s.relay.state ≠ .idle → s.sco.state ≠ .holding →
        exec (.applyPanel e ⟨p, data⟩) s = .next
          (State.endTxn { s.arrive e with relay.waitingPanel := some s.peu.pendingPanel } p .ok (zeros data.length))) ∧
      (s.relay.state = .idle → s.relay.panel = none →
        ∃ t, exec (.applyPanel e ⟨p, data⟩) s = .next t ∧ (t.port p).prevStatus = .ok ∧
          t.relay.panel = some s.peu.pendingPanel ∧ t.relay.waitingPanel = none ∧ t.relay.state ≠ .idle ∧
          t.store.usable = min 5 (s.peu.pendingPanel.memory * 1048576 /
            (s.peu.pendingPanel.ph * (ceilDiv (9 * s.peu.pendingPanel.pw) 512 * 256))) ∧
          (∀ k, (t.slot k).state = .free) ∧ t.sco.state = .scanning ∧
          t.link.head? = some (.scanOpen .border) ∧
          ∀ q, ((t.port q).flags .contractApplied).pending = true))

/-- COMMIT_OVERLAY gives the next commit number to a snapshot of all eight pending planes, which becomes the waiting
commit; one that waited is replaced and counted, up to 255. While the panel does not hold, nothing else changes but the
port's own record of the transaction. While it holds, HOLD_EXIT is sent, and the wake deadline lies X from now (this part
is stated with PANEL READY low and X above 0, so that the wake is not complete at once). -/
def Obligations.CommitTakesASnapshot : Prop :=
  (∀ (e : Env) (p : Port) (data : List Byte) (s : State),
    (s.port p).txn = none → s.hasRight p .overlay = true → s.sco.state ≠ .holding →
    ∃ t, exec (.commitOverlay e ⟨p, data⟩) s = .next t ∧ (t.port p).prevStatus = .ok ∧
      t.ovl.commitNumber = s.ovl.commitNumber + 1 ∧
      t.ovl.waiting = some (s.ovl.commitNumber + 1, s.ovl.pendingList) ∧
      t.ovl.replaced = (if s.ovl.waiting = none then s.ovl.replaced else min (s.ovl.replaced + 1) 255) ∧
      t.ovl.pendingList = s.ovl.pendingList ∧ t.ovl.active = s.ovl.active ∧ t.ovl.memory = s.ovl.memory ∧
      t.ovl.report = s.ovl.report ∧
      { t with ovl := s.ovl, peu := s.peu } = { s.arrive e with ovl := s.ovl, peu := s.peu } ∧
      { t.peu with ports := s.peu.ports } = s.peu ∧ (∀ q, q ≠ p → t.port q = s.port q) ∧
      (t.port p).causes = (s.port p).causes ∧ (t.port p).enables = (s.port p).enables ∧
      (t.port p).frozen = (s.port p).frozen ∧ (t.port p).trap = (s.port p).trap) ∧
  (∀ (e : Env) (p : Port) (data : List Byte) (s : State),
    (s.port p).txn = none → s.hasRight p .overlay = true → s.sco.state = .holding →
    (s.arrive e).panelReady = false → 0 < s.contract.x →
    ∃ t, exec (.commitOverlay e ⟨p, data⟩) s = .next t ∧ t.sco.state = .waking ∧ t.link = [.holdExit] ∧
      t.sco.lastHoldExit = some ((s.arrive e).relayTime, .commit) ∧
      t.sco.wakeDeadline = some { origin := (s.arrive e).relayTime, span := s.contract.x } ∧
      (s.mpt.power = .selfRefresh → t.mpt.power = .waking ∧
        t.mpt.exitDeadline = some { origin := (s.arrive e).relayTime, span := s.contract.e }) ∧
      t.ovl.waiting = some (s.ovl.commitNumber + 1, s.ovl.pendingList))

/-- PIN, in the order of its checks: PIN_HELD, NO_ROOM, NOT_READY with nothing changed; otherwise OK: the port is added
to the holders of the newest COMPLETE slot, and its record names the slot, its stamp, and the expiry setting, 1 for 0.
That the lowest-numbered of COMPLETE slots with equal stamps counts as the newest is the model's choice (assumption log
43). -/
def Obligations.PinAnswers : Prop :=
  ∀ (e : Env) (p : Port) (data : List Byte) (s : State), (s.port p).txn = none → s.hasRight p .pin = true →
    (s.store.pins.get p ≠ none → 
      exec (.pin e ⟨p, data⟩) s = .next ((s.arrive e).endTxn p .pinHeld (zeros data.length))) ∧
    (s.store.pins.get p = none → s.pinLimit < s.pinsHeld + 1 →
      exec (.pin e ⟨p, data⟩) s = .next ((s.arrive e).endTxn p .noRoom (zeros data.length))) ∧
    (s.store.pins.get p = none → s.pinsHeld + 1 ≤ s.pinLimit →
      ((s.arrive e).newestComplete = none → 
        exec (.pin e ⟨p, data⟩) s = .next ((s.arrive e).endTxn p .notReady (zeros data.length))) ∧
      ∀ k, (s.arrive e).newestComplete = some k →
        ∃ t, exec (.pin e ⟨p, data⟩) s = .next t ∧ (t.port p).prevStatus = .ok ∧
          t.store.pins.get p = some
            { slot := k, arrival := (s.slot k).arrival,
              remaining := if s.store.expiry.get p = 0 then 1 else (s.store.expiry.get p).toNat } ∧
          (t.slot k).pinHolders.get p = true ∧ (t.slot k).state = (s.slot k).state ∧
          (∀ q, q ≠ p → t.store.pins.get q = s.store.pins.get q ∧
            (t.slot k).pinHolders.get q = (s.slot k).pinHolders.get q) ∧
          (∀ j, j ≠ k → t.slot j = (s.arrive e).slot j) ∧
          t.pacing = s.pacing ∧ t.sco = s.sco ∧ t.mpt = s.mpt ∧ t.records = s.records)

/-- RELEASE ends the port's pin and no other, raises nothing, and answers OK; without a pin it answers PIN_NOT_HELD and
changes nothing. -/
def Obligations.ReleaseEndsThePin : Prop :=
  ∀ (e : Env) (p : Port) (data : List Byte) (s : State), (s.port p).txn = none → s.hasRight p .pin = true →
    (s.store.pins.get p = none → 
      exec (.release e ⟨p, data⟩) s = .next ((s.arrive e).endTxn p .pinNotHeld (zeros data.length))) ∧
    ∀ x, s.store.pins.get p = some x →
      ∃ t, exec (.release e ⟨p, data⟩) s = .next t ∧ (t.port p).prevStatus = .ok ∧ t.store.pins.get p = none ∧
        (t.slot x.slot).pinHolders.get p = false ∧
        (∀ q, q ≠ p → (t.slot x.slot).pinHolders.get q = (s.slot x.slot).pinHolders.get q) ∧
        (t.slot x.slot).state = (s.slot x.slot).state ∧ (t.slot x.slot).arrival = (s.slot x.slot).arrival ∧
        (∀ q, q ≠ p → t.store.pins.get q = s.store.pins.get q ∧ t.port q = s.port q) ∧
        (t.port p).causes = (s.port p).causes ∧ (∀ j, j ≠ x.slot → t.slot j = (s.arrive e).slot j) ∧
        t.pacing = s.pacing ∧ t.mpt = s.mpt ∧ t.records = s.records

/-- REALIGN puts the aligner in SEARCH with every lane ACTIVE and both counts cleared, in whatever state it was, and
raises no LOCK_LOST. A frame being received is cut: its slot is SHORT with lines received L, every slice that holds a
line numbered L or above is DAMAGED with its discarded-line flag set, the others stay as they are, and the line being
assembled is dropped (this part is stated while a scan is in progress, so that none opens at the event). Stated with no
input apply waiting. -/
def Obligations.RealignRestartsTheSearch : Prop :=
  (∀ (e : Env) (p : Port) (data : List Byte) (s : State),
    (s.port p).txn = none → s.hasRight p .input = true → s.relay.waitingInput = none →
    ∃ t, exec (.realign e ⟨p, data⟩) s = .next t ∧ (t.port p).prevStatus = .ok ∧ t.lra.aligner = .search ∧
      t.lra.searchRun = 0 ∧ t.lra.assembly = .gap ∧ t.lra.preface = s.lra.preface ∧ t.lra.testOn = s.lra.testOn ∧
      (∀ l, (t.lane l).state = .active ∧ (t.lane l).missCount = 0 ∧ (t.lane l).skewCount = 0 ∧
        (t.lane l).mark = false ∧ (t.lane l).rejoinRun = 0) ∧
      ∀ q, (t.port q).flags .lockLost = (s.port q).flags .lockLost) ∧
  (∀ (e : Env) (p : Port) (data : List Byte) (f : RxFrame) (s : State),
    (s.port p).txn = none → s.hasRight p .input = true → s.relay.waitingInput = none → s.sco.state = .scanning →
    s.lra.assembly = .receiving → s.lra.frame = some f → (s.slot f.slot).slices ≤ 270 →
    ∃ t, exec (.realign e ⟨p, data⟩) s = .next t ∧ (t.slot f.slot).state = .short ∧
      (t.slot f.slot).linesReceived = s.lra.linesDone ∧ t.lra.frame = none ∧ t.lra.lineBuffer = [] ∧
      ∀ j, j < (s.slot f.slot).slices →
        (s.lra.linesDone < j * (s.slot f.slot).sliceHeight + (s.slot f.slot).capacity j →
          ((t.slot f.slot).entry j).state = .damaged ∧ ((t.slot f.slot).entry j).discarded = true) ∧
        (j * (s.slot f.slot).sliceHeight + (s.slot f.slot).capacity j ≤ s.lra.linesDone →
          (t.slot f.slot).entry j = ((s.arrive e).slot f.slot).entry j))

/-- LANE_TEST_ON starts the test: the aligner in SEARCH, every lane ACTIVE with counts, SEEN, ERROR and error count
cleared and its generator unseeded; with a valid panel contract the relay is in BORDER with reason LANE_TEST (stated
with no input apply waiting). LANE_TEST_OFF ends the test and keeps the results; with the test off it changes nothing.
-/
def Obligations.LaneTestStartsAndStops : Prop :=
  (∀ (e : Env) (p : Port) (data : List Byte) (s : State),
    (s.port p).txn = none → s.hasRight p .input = true → s.relay.waitingInput = none →
    ∃ t, exec (.laneTestOn e ⟨p, data⟩) s = .next t ∧ (t.port p).prevStatus = .ok ∧ t.lra.testOn = true ∧
      t.lra.aligner = .search ∧ t.lra.assembly = .gap ∧
      (∀ l, (t.lane l).state = .active ∧ (t.lane l).missCount = 0 ∧ (t.lane l).skewCount = 0 ∧
        (t.lane l).testSeen = false ∧ (t.lane l).testError = false ∧ (t.lane l).testErrorCount = 0 ∧
        (t.lane l).generator = none) ∧
      (s.relay.panel ≠ none → t.relay.state = .border ∧ t.relay.reason = .laneTest) ∧
      (s.relay.panel = none → s.sco.state = .quiet → t.relay.state = .idle)) ∧
  (∀ (e : Env) (p : Port) (data : List Byte) (s : State), (s.port p).txn = none → s.hasRight p .input = true →
    (s.lra.testOn = false → exec (.laneTestOff e ⟨p, data⟩) s = .next ((s.arrive e).endTxn p .ok (zeros data.length))) ∧
    (s.lra.testOn = true →
      ∃ t, exec (.laneTestOff e ⟨p, data⟩) s = .next t ∧ (t.port p).prevStatus = .ok ∧ t.lra.testOn = false ∧
        t.lra.searchRun = 0 ∧ t.lra.aligner = s.lra.aligner ∧
        (∀ l, (t.lane l).testSeen = (s.lane l).testSeen ∧ (t.lane l).testError = (s.lane l).testError ∧
          (t.lane l).testErrorCount = (s.lane l).testErrorCount) ∧
        t.store = (s.arrive e).store))

/-- While the lane test is on, a delivered word with the synchronisation pattern is checked whatever its kind and
window: the first seeds the lane's generator from its last 15 payload bits, a later one that differs from the 36 bits
predicted sets ERROR and counts; in either case the generator goes on. -/
def Obligations.LaneTestChecksEachWord : Prop :=
  ∀ (e : Env) (d : PerLane Delivery) (l : Lane) (w : LaneWord) (s : State),
    s.lra.testOn = true → s.lra.aligner = .search → s.lra.assembly ≠ .receiving →
    deliveredWord (d.get l) = some w →
    ∃ t, exec (.groupPeriod e d) s = .next t ∧ t.lra.aligner = .search ∧ t.lra.searchRun = s.lra.searchRun ∧
      ((s.lane l).generator = none → (t.lane l).testSeen = true ∧
        (t.lane l).generator = some (w.extractLsb' 0 15) ∧
        (t.lane l).testErrorCount = (s.lane l).testErrorCount) ∧
      ∀ g, (s.lane l).generator = some g →
        (t.lane l).generator = some (testBits 36 g).2 ∧
        (t.lane l).testError = ((s.lane l).testError || decide ((testBits 36 g).1 ≠ (w.extractLsb' 0 36).toNat)) ∧
        (t.lane l).testErrorCount = (if (testBits 36 g).1 = (w.extractLsb' 0 36).toNat
          then (s.lane l).testErrorCount else min ((s.lane l).testErrorCount + 1) 65535)

/-- RELAY_RESET frees every slot, empties every pin without a cause, puts the aligner in SEARCH with every lane ACTIVE,
empties the staging queue, clears the statistics, and keeps the contracts, the held preface, the mode word, the ring,
the overlay lists and memory, the expiry settings and the enables; a scan in progress is aborted, and SCAN_ABORT is all
that is sent. Stated before the first panel contract, and after it while the recorded idle interval since the last open
has not passed, so that no scan opens at the event. A reset that ends a hold after that interval has passed sends
HOLD_EXIT and opens a BORDER scan at once. The second part says when the interval has passed as the command is taken: it
had passed before, or what had gone by since P_last and the time the command took add up to it; that the passing is so
kept through a wrap of relay time is the model's reading (assumption log 37). -/
def Obligations.RelayResetFreesEverySlot : Prop :=
  (∀ (e : Env) (p : Port) (data : List Byte) (s : State), (s.port p).txn = none → s.hasRight p .relayReset = true →
    (s.sco.state = .quiet ∧ s.relay.panel = none ∨
      s.sco.state ≠ .quiet ∧ s.relay.panel ≠ none ∧ (s.arrive e).idlePassed = false) →
    ∃ t, exec (.relayReset e ⟨p, data⟩) s = .next t ∧ (t.port p).prevStatus = .ok ∧
      (∀ c, s.sco.state = .scanning → s.sco.scan = some c →
        t.sco.scan = none ∧ t.sco.state = .ready ∧ t.link = [.scanAbort] ∧
          t.sco.lastScan = some (c.summary .aborted)) ∧
      (∀ k, t.slot k = Slot.reset) ∧ (∀ q, t.store.pins.get q = none) ∧ t.store.usable = s.store.usable ∧
      t.store.expiry = s.store.expiry ∧ t.lra.aligner = .search ∧ t.lra.staging = [] ∧ t.lra.testOn = false ∧
      (∀ l, (t.lane l).state = .active) ∧ t.lra.preface = s.lra.preface ∧ t.lra.prevFrameNumber = none ∧
      t.relay.input = s.relay.input ∧ t.relay.panel = s.relay.panel ∧ t.relay.waitingInput = none ∧
      t.relay.waitingPanel = none ∧ t.relay.graceFlag = false ∧ t.relay.lastMode = none ∧
      (s.relay.panel ≠ none → t.relay.state = .border ∧ t.relay.reason = .noLock) ∧
      t.pacing.holdReference = some (s.arrive e).relayTime ∧ t.pacing.repeatSource = none ∧
      t.records.ring = s.records.ring ∧ t.records.stats = Stats.reset ∧ t.peu.modeWord = s.peu.modeWord ∧
      t.ovl = s.ovl ∧ t.mpt.frameMemory = s.mpt.frameMemory ∧
      ∀ q, (t.port q).enables = (s.port q).enables ∧ (t.port q).frozen = (s.port q).frozen ∧
        (t.port q).flags .pinExpired = (s.port q).flags .pinExpired) ∧
  (∀ (e : Env) (o : LastOpen) (s : State), s.pacing.lastOpen = some o →
    ((s.arrive e).idlePassed = true ↔
      s.idlePassed = true ∨ o.idle ≤ (s.relayTime - o.time).toNat + e.elapsed.toNat)) ∧
  (∀ (e : Env) (p : Port) (data : List Byte) (s : State),
    (s.port p).txn = none → s.hasRight p .relayReset = true → s.sco.state = .holding → s.relay.panel ≠ none →
    1 ≤ s.contract.holdDelay → (s.arrive e).idlePassed = true →
    ∃ t pixels, exec (.relayReset e ⟨p, data⟩) s = .next t ∧ (t.port p).prevStatus = .ok ∧
      t.sco.state = .scanning ∧ t.link = [.holdExit, .scanOpen .border, .line 0 pixels] ∧
      t.sco.lastHoldExit = some ((s.arrive e).relayTime, .relayReset) ∧ t.sco.lastWakeEnding = some .reset ∧
      (t.pacing.lastOpen.map fun x => (x.time, x.kind)) = some ((s.arrive e).relayTime, .border) ∧
      (∀ k, t.slot k = Slot.reset) ∧ (∀ q, t.store.pins.get q = none) ∧
      ∀ q, (t.port q).flags .pinExpired = (s.port q).flags .pinExpired)

/-- NEXT_RECORD copies the port's oldest unread record into its view with the count of those that remain and the lost
count, which is then 0; with none unread the view is NONE. The ring and the other port's reading are untouched. -/
def Obligations.NextRecordReadsTheOldest : Prop :=
  ∀ (e : Env) (p : Port) (data : List Byte) (s : State), (s.port p).txn = none → s.hasRight p .records = true →
    ∃ t, exec (.nextRecord e ⟨p, data⟩) s = .next t ∧ (t.port p).prevStatus = .ok ∧
      t.records.ring = s.records.ring ∧ t.records.stats = s.records.stats ∧
      (∀ q, q ≠ p → t.records.readers.get q = s.records.readers.get q) ∧
      ((s.records.readers.get p).unread = 0 → t.records.readers.get p =
        { unread := 0, lost := (s.records.readers.get p).lost,
          view := { record := none, lost := (s.records.readers.get p).lost, unread := 0 } }) ∧
      ∀ n, (s.records.readers.get p).unread = n + 1 → t.records.readers.get p =
        { unread := n, lost := 0,
          view := { record := s.records.ring[s.records.ring.length - (n + 1)]?,
                    lost := (s.records.readers.get p).lost, unread := n } }

/-- ACK_CAUSE of a cause, answered OK: its flags and detail are cleared in this port's set, a freeze on it is released,
the trap is emptied when it is ACCESS_DENIED, and every other cause, the enables and the other port are untouched. A
missing or unknown number is BAD_COMMAND and changes nothing. A 0 goes out for each data byte; that those after the
first are ignored is the model's choice (assumption log 33). -/
def Obligations.AckCauseClearsOne : Prop :=
  ∀ (e : Env) (p : Port) (rest : List Byte) (s : State), (s.port p).txn = none →
    (∀ c ∈ allCauses, ∃ t, exec (.ackCause e p (BitVec.ofNat 8 c.number :: rest)) s = .next t ∧
      (t.port p).prevStatus = .ok ∧
      (t.port p).dataOut = [(s.port p).prevStatus.code, 0, 0, 0] ++ List.replicate (rest.length + 1) 0 ∧
      (t.port p).flags c = { pending := false, repeated := false, detail := 0 } ∧
      (∀ c', c' ≠ c → (t.port p).flags c' = (s.port p).flags c') ∧
      (t.port p).frozen = (if (s.port p).frozen = some c then none else (s.port p).frozen) ∧
      (t.port p).trap = (if c = .accessDenied then none else (s.port p).trap) ∧
      (t.port p).enables = (s.port p).enables ∧ (∀ q, q ≠ p → t.port q = s.port q) ∧
      { t with peu := s.peu } = { s.arrive e with peu := s.peu }) ∧
    exec (.ackCause e p []) s = .next ((s.arrive e).endTxn p .badCommand []) ∧
    ∀ b : Byte, (b = 0 ∨ 12 < b.toNat) →
      exec (.ackCause e p (b :: rest)) s =
        .next ((s.arrive e).endTxn p .badCommand (List.replicate (rest.length + 1) 0))

/-- SET_CAUSE enters the cause into the requesting port's own set alone, with the detail TEST where it was not pending,
and REPEAT set with the earlier detail kept where it was. The line is asserted if it was or if the cause is enabled, and
a free identification names the cause if it is enabled and more urgent than the one named. The trap, the freeze, the
other port and every block outside the ports are untouched. A missing or unknown number is BAD_COMMAND and changes
nothing. A 0 goes out for each data byte; that those after the first are ignored is the model's choice (assumption log
33). -/
def Obligations.SetCauseEntersOne : Prop :=
  ∀ (e : Env) (p : Port) (rest : List Byte) (s : State), (s.port p).txn = none →
    (∀ c ∈ allCauses, ∃ t, exec (.setCause e p (BitVec.ofNat 8 c.number :: rest)) s = .next t ∧
      (t.port p).prevStatus = .ok ∧
      (t.port p).dataOut = [(s.port p).prevStatus.code, 0, 0, 0] ++ List.replicate (rest.length + 1) 0 ∧
      (t.port p).flags c = (if ((s.port p).flags c).pending then { (s.port p).flags c with repeated := true }
        else { pending := true, repeated := false, detail := 0xFFFF }) ∧
      (∀ c', c' ≠ c → (t.port p).flags c' = (s.port p).flags c') ∧
      (t.port p).line = ((s.port p).line || (s.port p).enabled c) ∧
      (t.port p).named = (match (s.port p).frozen with
        | some x => some x
        | none =>
          if (s.port p).enabled c && ((s.port p).urgent.all fun x => decide (c.number < x.number)) then some c
          else (s.port p).urgent) ∧
      (t.port p).frozen = (s.port p).frozen ∧ (t.port p).trap = (s.port p).trap ∧
      (t.port p).enables = (s.port p).enables ∧ (∀ q, q ≠ p → t.port q = s.port q) ∧
      { t with peu := s.peu } = { s.arrive e with peu := s.peu }) ∧
    exec (.setCause e p []) s = .next ((s.arrive e).endTxn p .badCommand []) ∧
    ∀ b : Byte, (b = 0 ∨ 12 < b.toNat) →
      exec (.setCause e p (b :: rest)) s =
        .next ((s.arrive e).endTxn p .badCommand (List.replicate (rest.length + 1) 0))

/-- Bytes that name none of the four commands, or end before the third address byte, give BAD_COMMAND, and a REQUEST at
an address that names no request gives BAD_ADDRESS; after the previous status every byte out is 0, and nothing else
changes. -/
def Obligations.BadTransactionsDoNothing : Prop :=
  ∀ (e : Env) (p : Port) (bytes : List Byte) (s : State), (s.port p).txn = none → badBytes bytes = true →
    exec (.badCommandTransaction e p bytes) s = .next ((s.arrive e).setPort p
      { s.port p with
        prevStatus := if badCommandBytes bytes then .badCommand else .badAddress
        txn := none
        dataOut := ((s.port p).prevStatus.code :: List.replicate bytes.length 0).take bytes.length })

/-! ## Encoding -/

/-- The bytes of a transaction, written out from the command, make that command again, for every well-formed command
that is a whole transaction: no operand is dropped. -/
def Obligations.TransactionBytesRoundTrip : Prop :=
  ∀ (i : Instr) (e : Env) (p : Port) (bytes : List Byte),
    i.wf = true → sender i = some (e, p) → wire i = some bytes → transactionOf e p bytes = i

/-! ## Invariants that every step keeps -/

/-- Overlay memory and frame memory keep their canonical form. -/
def Obligations.MemoriesStayCanonical : Prop :=
  ∀ s t : State, s.Canonical → step s = .next t → t.Canonical

/-- The relay mode word stays legal: bit 7 reads 0 and LOWLAG_POLICY is no reserved encoding. The access profile is what
the straps set at power-on reset: no other command changes it. -/
def Obligations.ModeWordStaysLegal : Prop :=
  (∀ s t : State, s.ModeLegal → step s = .next t → t.ModeLegal) ∧
  ∀ (c : Instr) (s t : State), (∀ k, c ≠ .powerOnReset k) → exec c s = .next t → t.peu.profile = s.peu.profile

/-- Pin records and pin holders stay in agreement, with the frames they pin in their slots. -/
def Obligations.PinsStayInAgreement : Prop :=
  ∀ s t : State, s.PinsAgree → step s = .next t → t.PinsAgree

/-- A current scan is held exactly while the scan-out scans, and QUIET, IDLE and the absence of a panel contract stay
together. -/
def Obligations.ScanOutStaysInAgreement : Prop :=
  ∀ s t : State, s.ScanAgrees → step s = .next t → t.ScanAgrees

/-- The record ring, the unread and lost counts, the repeat tally, the miss and skew counts, the staging queue, the owed
refreshes, the interval history, the penalty level and the clean count keep their bounds. -/
def Obligations.BoundsAreKept : Prop :=
  ∀ s t : State, step s = .next t →
    (s.RingBounded → t.RingBounded) ∧ (s.CountsLimited → t.CountsLimited) ∧ (s.QueuesBounded → t.QueuesBounded)
end

