-- ==== Sys2Proof/Laws/State.lean ====
section
/-! SUPPORT. The small lemmas of the state: what a named update leaves of the state, and reading back what it wrote. -/
namespace Sys2Proof

/-! ## One value for each port or lane -/

@[simp] theorem PerPort.get_set_same {α : Type} (v : PerPort α) (p : Port) (x : α) : (v.set p x).get p = x := by
  cases p <;> rfl

@[simp] theorem PerPort.get_set_other {α : Type} (v : PerPort α) (p q : Port) (x : α) (h : q ≠ p) :
    (v.set p x).get q = v.get q := by
  cases p <;> cases q <;> first | rfl | exact absurd rfl h

@[simp] theorem PerPort.get_map {α β : Type} (f : α → β) (v : PerPort α) (p : Port) :
    (v.map f).get p = f (v.get p) := by
  cases p <;> rfl

@[simp] theorem PerLane.get_set_same {α : Type} (v : PerLane α) (l : Lane) (x : α) : (v.set l x).get l = x := by
  cases l <;> rfl

@[simp] theorem PerLane.get_set_other {α : Type} (v : PerLane α) (l m : Lane) (x : α) (h : m ≠ l) :
    (v.set l x).get m = v.get m := by
  cases l <;> cases m <;> first | rfl | exact absurd rfl h

@[simp] theorem PerLane.get_map {α β : Type} (f : α → β) (v : PerLane α) (l : Lane) :
    (v.map f).get l = f (v.get l) := by
  cases l <;> rfl

end Sys2Proof

namespace Sys2Proof.Machine

/-! ## Slots, lanes and ports read back -/

@[simp] theorem slot_modSlot_same (s : State) (k : Fin 5) (f : Slot → Slot) : (s.modSlot k f).slot k = f (s.slot k) := by
  simp [State.slot, State.modSlot]

@[simp] theorem slot_modSlot_other (s : State) (k j : Fin 5) (f : Slot → Slot) (h : j ≠ k) :
    (s.modSlot k f).slot j = s.slot j := by
  have hv : k.val ≠ j.val := fun e => h (Fin.ext e.symm)
  simp [State.slot, State.modSlot, Vector.getElem_set, hv]

/-! ## A cut at a boundary, and the end of a wake -/

theorem cutAtBoundary_of_none (s : State) (h : s.receiving = none) : s.cutAtBoundary = s := by
  simp [State.cutAtBoundary, h]

theorem cutAtBoundary_of_some (s : State) (f : RxFrame) (h : s.receiving = some f) :
    s.cutAtBoundary = s.cutReceived.applyInputNow := by simp [State.cutAtBoundary, h]

/-- The idle interval since P_last has passed n microseconds on if it had passed, or if the time so far and n reach it. -/
theorem idleAfter_iff (s : State) (n : Nat) :
    s.idleAfter n = true ↔
      s.idlePassed = true ∨ ∃ o, s.pacing.lastOpen = some o ∧ o.idle ≤ since s.relayTime o.time + n := by
  cases h : s.pacing.lastOpen <;> simp [State.idleAfter, h]

/-- An interval modulo 2^32 is at most the interval before an advance plus the advance. -/
theorem since_add_le (t n o : Stamp) : since (t + n) o ≤ since t o + n.toNat := by
  have h : t + n - o = (t - o) + n := by rw [BitVec.sub_eq_add_neg, BitVec.sub_eq_add_neg]; ac_rfl
  rw [since, since, h, BitVec.toNat_add]
  exact Nat.mod_le _ _

/-- A scan may open once the gate's reach has been taken, or its time has come, or while there is no gate. -/
theorem gatePassed_iff (s : State) :
    s.gatePassed = true ↔ s.pacing.tminReached = true ∨ ∀ d, s.tminGate = some d → d.due s.relayTime = true := by
  cases h : s.pacing.lastOpen <;> simp [State.gatePassed, State.gateMet, State.tminGate, deadlineDue, h]

/-- A wake's end is a scan open, or, before the Tmin gate, an open that waits for it. -/
theorem completeWake_cases (s : State) (ending : WakeEnding) :
    (s.gatePassed = true ∧ s.completeWake ending = State.openScan
      { s with sco.state := .ready, sco.wakeDeadline := none, sco.lastWakeEnding := some ending }) ∨
    (s.gatePassed = false ∧ s.completeWake ending =
      { s with sco.state := .ready, sco.wakeDeadline := none, sco.lastWakeEnding := some ending,
               pacing.waitingRepeat := true }) := by
  cases h : s.gatePassed
  · exact .inr ⟨rfl, if_neg (fun g => Bool.noConfusion (h.symm.trans g))⟩
  · exact .inl ⟨rfl, if_pos h⟩

@[simp] theorem lane_modLane_same (s : State) (l : Lane) (f : LaneRec → LaneRec) :
    (s.modLane l f).lane l = f (s.lane l) := by
  simp [State.lane, State.modLane]

@[simp] theorem lane_modLane_other (s : State) (l m : Lane) (f : LaneRec → LaneRec) (h : m ≠ l) :
    (s.modLane l f).lane m = s.lane m := by
  simp [State.lane, State.modLane, h]

@[simp] theorem lane_mapLanes (s : State) (f : LaneRec → LaneRec) (l : Lane) :
    (s.mapLanes f).lane l = f (s.lane l) := by
  simp [State.lane, State.mapLanes]

@[simp] theorem port_setPort_same (s : State) (p : Port) (x : PortCtl) : (s.setPort p x).port p = x := by
  simp [State.port, State.setPort]

@[simp] theorem port_setPort_other (s : State) (p q : Port) (x : PortCtl) (h : q ≠ p) :
    (s.setPort p x).port q = s.port q := by
  simp [State.port, State.setPort, h]

@[simp] theorem port_raise (s : State) (c : Cause) (d : BitVec 16) (p : Port) :
    (s.raise c d).port p = (s.port p).enter c d := by
  simp [State.port, State.raise]

/-! ## What a named update leaves -/

/-! ### modSlot -/

@[simp] theorem modSlot_pending (s : State) (k : Fin 5) (f : Slot → Slot) : (s.modSlot k f).pending = s.pending := rfl
@[simp] theorem modSlot_relayTime (s : State) (k : Fin 5) (f : Slot → Slot) : (s.modSlot k f).relayTime = s.relayTime := rfl
@[simp] theorem modSlot_panelReady (s : State) (k : Fin 5) (f : Slot → Slot) : (s.modSlot k f).panelReady = s.panelReady := rfl
@[simp] theorem modSlot_link (s : State) (k : Fin 5) (f : Slot → Slot) : (s.modSlot k f).link = s.link := rfl
@[simp] theorem modSlot_choices (s : State) (k : Fin 5) (f : Slot → Slot) : (s.modSlot k f).choices = s.choices := rfl
@[simp] theorem modSlot_idlePassed (s : State) (k : Fin 5) (f : Slot → Slot) : (s.modSlot k f).idlePassed = s.idlePassed := rfl
@[simp] theorem modSlot_lra (s : State) (k : Fin 5) (f : Slot → Slot) : (s.modSlot k f).lra = s.lra := rfl
@[simp] theorem modSlot_relay (s : State) (k : Fin 5) (f : Slot → Slot) : (s.modSlot k f).relay = s.relay := rfl
@[simp] theorem modSlot_pacing (s : State) (k : Fin 5) (f : Slot → Slot) : (s.modSlot k f).pacing = s.pacing := rfl
@[simp] theorem modSlot_sco (s : State) (k : Fin 5) (f : Slot → Slot) : (s.modSlot k f).sco = s.sco := rfl
@[simp] theorem modSlot_ovl (s : State) (k : Fin 5) (f : Slot → Slot) : (s.modSlot k f).ovl = s.ovl := rfl
@[simp] theorem modSlot_mpt (s : State) (k : Fin 5) (f : Slot → Slot) : (s.modSlot k f).mpt = s.mpt := rfl
@[simp] theorem modSlot_records (s : State) (k : Fin 5) (f : Slot → Slot) : (s.modSlot k f).records = s.records := rfl
@[simp] theorem modSlot_peu (s : State) (k : Fin 5) (f : Slot → Slot) : (s.modSlot k f).peu = s.peu := rfl
@[simp] theorem modSlot_store_lineBytes (s : State) (k : Fin 5) (f : Slot → Slot) : (s.modSlot k f).store.lineBytes = s.store.lineBytes := rfl
@[simp] theorem modSlot_store_slotBytes (s : State) (k : Fin 5) (f : Slot → Slot) : (s.modSlot k f).store.slotBytes = s.store.slotBytes := rfl
@[simp] theorem modSlot_store_usable (s : State) (k : Fin 5) (f : Slot → Slot) : (s.modSlot k f).store.usable = s.store.usable := rfl
@[simp] theorem modSlot_store_pins (s : State) (k : Fin 5) (f : Slot → Slot) : (s.modSlot k f).store.pins = s.store.pins := rfl
@[simp] theorem modSlot_store_expiry (s : State) (k : Fin 5) (f : Slot → Slot) : (s.modSlot k f).store.expiry = s.store.expiry := rfl

/-! ### setPort -/

@[simp] theorem setPort_pending (s : State) (p : Port) (x : PortCtl) : (s.setPort p x).pending = s.pending := rfl
@[simp] theorem setPort_relayTime (s : State) (p : Port) (x : PortCtl) : (s.setPort p x).relayTime = s.relayTime := rfl
@[simp] theorem setPort_panelReady (s : State) (p : Port) (x : PortCtl) : (s.setPort p x).panelReady = s.panelReady := rfl
@[simp] theorem setPort_link (s : State) (p : Port) (x : PortCtl) : (s.setPort p x).link = s.link := rfl
@[simp] theorem setPort_choices (s : State) (p : Port) (x : PortCtl) : (s.setPort p x).choices = s.choices := rfl
@[simp] theorem setPort_idlePassed (s : State) (p : Port) (x : PortCtl) : (s.setPort p x).idlePassed = s.idlePassed := rfl
@[simp] theorem setPort_lra (s : State) (p : Port) (x : PortCtl) : (s.setPort p x).lra = s.lra := rfl
@[simp] theorem setPort_store (s : State) (p : Port) (x : PortCtl) : (s.setPort p x).store = s.store := rfl
@[simp] theorem setPort_relay (s : State) (p : Port) (x : PortCtl) : (s.setPort p x).relay = s.relay := rfl
@[simp] theorem setPort_pacing (s : State) (p : Port) (x : PortCtl) : (s.setPort p x).pacing = s.pacing := rfl
@[simp] theorem setPort_sco (s : State) (p : Port) (x : PortCtl) : (s.setPort p x).sco = s.sco := rfl
@[simp] theorem setPort_ovl (s : State) (p : Port) (x : PortCtl) : (s.setPort p x).ovl = s.ovl := rfl
@[simp] theorem setPort_mpt (s : State) (p : Port) (x : PortCtl) : (s.setPort p x).mpt = s.mpt := rfl
@[simp] theorem setPort_records (s : State) (p : Port) (x : PortCtl) : (s.setPort p x).records = s.records := rfl
@[simp] theorem setPort_peu_profile (s : State) (p : Port) (x : PortCtl) : (s.setPort p x).peu.profile = s.peu.profile := rfl
@[simp] theorem setPort_peu_modeWord (s : State) (p : Port) (x : PortCtl) : (s.setPort p x).peu.modeWord = s.peu.modeWord := rfl
@[simp] theorem setPort_peu_pendingInput (s : State) (p : Port) (x : PortCtl) : (s.setPort p x).peu.pendingInput = s.peu.pendingInput := rfl
@[simp] theorem setPort_peu_pendingPanel (s : State) (p : Port) (x : PortCtl) : (s.setPort p x).peu.pendingPanel = s.peu.pendingPanel := rfl

/-! ### raise -/

@[simp] theorem raise_pending (s : State) (c : Cause) (d : BitVec 16) : (s.raise c d).pending = s.pending := rfl
@[simp] theorem raise_relayTime (s : State) (c : Cause) (d : BitVec 16) : (s.raise c d).relayTime = s.relayTime := rfl
@[simp] theorem raise_panelReady (s : State) (c : Cause) (d : BitVec 16) : (s.raise c d).panelReady = s.panelReady := rfl
@[simp] theorem raise_link (s : State) (c : Cause) (d : BitVec 16) : (s.raise c d).link = s.link := rfl
@[simp] theorem raise_choices (s : State) (c : Cause) (d : BitVec 16) : (s.raise c d).choices = s.choices := rfl
@[simp] theorem raise_idlePassed (s : State) (c : Cause) (d : BitVec 16) : (s.raise c d).idlePassed = s.idlePassed := rfl
@[simp] theorem raise_lra (s : State) (c : Cause) (d : BitVec 16) : (s.raise c d).lra = s.lra := rfl
@[simp] theorem raise_store (s : State) (c : Cause) (d : BitVec 16) : (s.raise c d).store = s.store := rfl
@[simp] theorem raise_relay (s : State) (c : Cause) (d : BitVec 16) : (s.raise c d).relay = s.relay := rfl
@[simp] theorem raise_pacing (s : State) (c : Cause) (d : BitVec 16) : (s.raise c d).pacing = s.pacing := rfl
@[simp] theorem raise_sco (s : State) (c : Cause) (d : BitVec 16) : (s.raise c d).sco = s.sco := rfl
@[simp] theorem raise_ovl (s : State) (c : Cause) (d : BitVec 16) : (s.raise c d).ovl = s.ovl := rfl
@[simp] theorem raise_mpt (s : State) (c : Cause) (d : BitVec 16) : (s.raise c d).mpt = s.mpt := rfl
@[simp] theorem raise_records (s : State) (c : Cause) (d : BitVec 16) : (s.raise c d).records = s.records := rfl
@[simp] theorem raise_peu_profile (s : State) (c : Cause) (d : BitVec 16) : (s.raise c d).peu.profile = s.peu.profile := rfl
@[simp] theorem raise_peu_modeWord (s : State) (c : Cause) (d : BitVec 16) : (s.raise c d).peu.modeWord = s.peu.modeWord := rfl
@[simp] theorem raise_peu_pendingInput (s : State) (c : Cause) (d : BitVec 16) : (s.raise c d).peu.pendingInput = s.peu.pendingInput := rfl
@[simp] theorem raise_peu_pendingPanel (s : State) (c : Cause) (d : BitVec 16) : (s.raise c d).peu.pendingPanel = s.peu.pendingPanel := rfl

/-! ### send -/

@[simp] theorem send_pending (s : State) (m : Marker) : (s.send m).pending = s.pending := rfl
@[simp] theorem send_relayTime (s : State) (m : Marker) : (s.send m).relayTime = s.relayTime := rfl
@[simp] theorem send_panelReady (s : State) (m : Marker) : (s.send m).panelReady = s.panelReady := rfl
@[simp] theorem send_choices (s : State) (m : Marker) : (s.send m).choices = s.choices := rfl
@[simp] theorem send_idlePassed (s : State) (m : Marker) : (s.send m).idlePassed = s.idlePassed := rfl
@[simp] theorem send_lra (s : State) (m : Marker) : (s.send m).lra = s.lra := rfl
@[simp] theorem send_store (s : State) (m : Marker) : (s.send m).store = s.store := rfl
@[simp] theorem send_relay (s : State) (m : Marker) : (s.send m).relay = s.relay := rfl
@[simp] theorem send_pacing (s : State) (m : Marker) : (s.send m).pacing = s.pacing := rfl
@[simp] theorem send_sco (s : State) (m : Marker) : (s.send m).sco = s.sco := rfl
@[simp] theorem send_ovl (s : State) (m : Marker) : (s.send m).ovl = s.ovl := rfl
@[simp] theorem send_mpt (s : State) (m : Marker) : (s.send m).mpt = s.mpt := rfl
@[simp] theorem send_records (s : State) (m : Marker) : (s.send m).records = s.records := rfl
@[simp] theorem send_peu (s : State) (m : Marker) : (s.send m).peu = s.peu := rfl

/-! ### stat -/

@[simp] theorem stat_pending (s : State) (f : Stats → Stats) : (s.stat f).pending = s.pending := rfl
@[simp] theorem stat_relayTime (s : State) (f : Stats → Stats) : (s.stat f).relayTime = s.relayTime := rfl
@[simp] theorem stat_panelReady (s : State) (f : Stats → Stats) : (s.stat f).panelReady = s.panelReady := rfl
@[simp] theorem stat_link (s : State) (f : Stats → Stats) : (s.stat f).link = s.link := rfl
@[simp] theorem stat_choices (s : State) (f : Stats → Stats) : (s.stat f).choices = s.choices := rfl
@[simp] theorem stat_idlePassed (s : State) (f : Stats → Stats) : (s.stat f).idlePassed = s.idlePassed := rfl
@[simp] theorem stat_lra (s : State) (f : Stats → Stats) : (s.stat f).lra = s.lra := rfl
@[simp] theorem stat_store (s : State) (f : Stats → Stats) : (s.stat f).store = s.store := rfl
@[simp] theorem stat_relay (s : State) (f : Stats → Stats) : (s.stat f).relay = s.relay := rfl
@[simp] theorem stat_pacing (s : State) (f : Stats → Stats) : (s.stat f).pacing = s.pacing := rfl
@[simp] theorem stat_sco (s : State) (f : Stats → Stats) : (s.stat f).sco = s.sco := rfl
@[simp] theorem stat_ovl (s : State) (f : Stats → Stats) : (s.stat f).ovl = s.ovl := rfl
@[simp] theorem stat_mpt (s : State) (f : Stats → Stats) : (s.stat f).mpt = s.mpt := rfl
@[simp] theorem stat_peu (s : State) (f : Stats → Stats) : (s.stat f).peu = s.peu := rfl
@[simp] theorem stat_records_ring (s : State) (f : Stats → Stats) : (s.stat f).records.ring = s.records.ring := rfl
@[simp] theorem stat_records_nextSequence (s : State) (f : Stats → Stats) : (s.stat f).records.nextSequence = s.records.nextSequence := rfl
@[simp] theorem stat_records_readers (s : State) (f : Stats → Stats) : (s.stat f).records.readers = s.records.readers := rfl
@[simp] theorem stat_records_repeatTally (s : State) (f : Stats → Stats) : (s.stat f).records.repeatTally = s.records.repeatTally := rfl

/-! ### modLane -/

@[simp] theorem modLane_pending (s : State) (l : Lane) (f : LaneRec → LaneRec) : (s.modLane l f).pending = s.pending := rfl
@[simp] theorem modLane_relayTime (s : State) (l : Lane) (f : LaneRec → LaneRec) : (s.modLane l f).relayTime = s.relayTime := rfl
@[simp] theorem modLane_panelReady (s : State) (l : Lane) (f : LaneRec → LaneRec) : (s.modLane l f).panelReady = s.panelReady := rfl
@[simp] theorem modLane_link (s : State) (l : Lane) (f : LaneRec → LaneRec) : (s.modLane l f).link = s.link := rfl
@[simp] theorem modLane_choices (s : State) (l : Lane) (f : LaneRec → LaneRec) : (s.modLane l f).choices = s.choices := rfl
@[simp] theorem modLane_idlePassed (s : State) (l : Lane) (f : LaneRec → LaneRec) : (s.modLane l f).idlePassed = s.idlePassed := rfl
@[simp] theorem modLane_store (s : State) (l : Lane) (f : LaneRec → LaneRec) : (s.modLane l f).store = s.store := rfl
@[simp] theorem modLane_relay (s : State) (l : Lane) (f : LaneRec → LaneRec) : (s.modLane l f).relay = s.relay := rfl
@[simp] theorem modLane_pacing (s : State) (l : Lane) (f : LaneRec → LaneRec) : (s.modLane l f).pacing = s.pacing := rfl
@[simp] theorem modLane_sco (s : State) (l : Lane) (f : LaneRec → LaneRec) : (s.modLane l f).sco = s.sco := rfl
@[simp] theorem modLane_ovl (s : State) (l : Lane) (f : LaneRec → LaneRec) : (s.modLane l f).ovl = s.ovl := rfl
@[simp] theorem modLane_mpt (s : State) (l : Lane) (f : LaneRec → LaneRec) : (s.modLane l f).mpt = s.mpt := rfl
@[simp] theorem modLane_records (s : State) (l : Lane) (f : LaneRec → LaneRec) : (s.modLane l f).records = s.records := rfl
@[simp] theorem modLane_peu (s : State) (l : Lane) (f : LaneRec → LaneRec) : (s.modLane l f).peu = s.peu := rfl
@[simp] theorem modLane_lra_aligner (s : State) (l : Lane) (f : LaneRec → LaneRec) : (s.modLane l f).lra.aligner = s.lra.aligner := rfl
@[simp] theorem modLane_lra_searchRun (s : State) (l : Lane) (f : LaneRec → LaneRec) : (s.modLane l f).lra.searchRun = s.lra.searchRun := rfl
@[simp] theorem modLane_lra_assembly (s : State) (l : Lane) (f : LaneRec → LaneRec) : (s.modLane l f).lra.assembly = s.lra.assembly := rfl
@[simp] theorem modLane_lra_frame (s : State) (l : Lane) (f : LaneRec → LaneRec) : (s.modLane l f).lra.frame = s.lra.frame := rfl
@[simp] theorem modLane_lra_linesDone (s : State) (l : Lane) (f : LaneRec → LaneRec) : (s.modLane l f).lra.linesDone = s.lra.linesDone := rfl
@[simp] theorem modLane_lra_groupIndex (s : State) (l : Lane) (f : LaneRec → LaneRec) : (s.modLane l f).lra.groupIndex = s.lra.groupIndex := rfl
@[simp] theorem modLane_lra_lineBuffer (s : State) (l : Lane) (f : LaneRec → LaneRec) : (s.modLane l f).lra.lineBuffer = s.lra.lineBuffer := rfl
@[simp] theorem modLane_lra_preface (s : State) (l : Lane) (f : LaneRec → LaneRec) : (s.modLane l f).lra.preface = s.lra.preface := rfl
@[simp] theorem modLane_lra_staging (s : State) (l : Lane) (f : LaneRec → LaneRec) : (s.modLane l f).lra.staging = s.lra.staging := rfl
@[simp] theorem modLane_lra_excessWords (s : State) (l : Lane) (f : LaneRec → LaneRec) : (s.modLane l f).lra.excessWords = s.lra.excessWords := rfl
@[simp] theorem modLane_lra_excessLines (s : State) (l : Lane) (f : LaneRec → LaneRec) : (s.modLane l f).lra.excessLines = s.lra.excessLines := rfl
@[simp] theorem modLane_lra_testOn (s : State) (l : Lane) (f : LaneRec → LaneRec) : (s.modLane l f).lra.testOn = s.lra.testOn := rfl
@[simp] theorem modLane_lra_prevFrameNumber (s : State) (l : Lane) (f : LaneRec → LaneRec) : (s.modLane l f).lra.prevFrameNumber = s.lra.prevFrameNumber := rfl

/-! ### mapLanes -/

@[simp] theorem mapLanes_pending (s : State) (f : LaneRec → LaneRec) : (s.mapLanes f).pending = s.pending := rfl
@[simp] theorem mapLanes_relayTime (s : State) (f : LaneRec → LaneRec) : (s.mapLanes f).relayTime = s.relayTime := rfl
@[simp] theorem mapLanes_panelReady (s : State) (f : LaneRec → LaneRec) : (s.mapLanes f).panelReady = s.panelReady := rfl
@[simp] theorem mapLanes_link (s : State) (f : LaneRec → LaneRec) : (s.mapLanes f).link = s.link := rfl
@[simp] theorem mapLanes_choices (s : State) (f : LaneRec → LaneRec) : (s.mapLanes f).choices = s.choices := rfl
@[simp] theorem mapLanes_idlePassed (s : State) (f : LaneRec → LaneRec) : (s.mapLanes f).idlePassed = s.idlePassed := rfl
@[simp] theorem mapLanes_store (s : State) (f : LaneRec → LaneRec) : (s.mapLanes f).store = s.store := rfl
@[simp] theorem mapLanes_relay (s : State) (f : LaneRec → LaneRec) : (s.mapLanes f).relay = s.relay := rfl
@[simp] theorem mapLanes_pacing (s : State) (f : LaneRec → LaneRec) : (s.mapLanes f).pacing = s.pacing := rfl
@[simp] theorem mapLanes_sco (s : State) (f : LaneRec → LaneRec) : (s.mapLanes f).sco = s.sco := rfl
@[simp] theorem mapLanes_ovl (s : State) (f : LaneRec → LaneRec) : (s.mapLanes f).ovl = s.ovl := rfl
@[simp] theorem mapLanes_mpt (s : State) (f : LaneRec → LaneRec) : (s.mapLanes f).mpt = s.mpt := rfl
@[simp] theorem mapLanes_records (s : State) (f : LaneRec → LaneRec) : (s.mapLanes f).records = s.records := rfl
@[simp] theorem mapLanes_peu (s : State) (f : LaneRec → LaneRec) : (s.mapLanes f).peu = s.peu := rfl
@[simp] theorem mapLanes_lra_aligner (s : State) (f : LaneRec → LaneRec) : (s.mapLanes f).lra.aligner = s.lra.aligner := rfl
@[simp] theorem mapLanes_lra_searchRun (s : State) (f : LaneRec → LaneRec) : (s.mapLanes f).lra.searchRun = s.lra.searchRun := rfl
@[simp] theorem mapLanes_lra_assembly (s : State) (f : LaneRec → LaneRec) : (s.mapLanes f).lra.assembly = s.lra.assembly := rfl
@[simp] theorem mapLanes_lra_frame (s : State) (f : LaneRec → LaneRec) : (s.mapLanes f).lra.frame = s.lra.frame := rfl
@[simp] theorem mapLanes_lra_linesDone (s : State) (f : LaneRec → LaneRec) : (s.mapLanes f).lra.linesDone = s.lra.linesDone := rfl
@[simp] theorem mapLanes_lra_groupIndex (s : State) (f : LaneRec → LaneRec) : (s.mapLanes f).lra.groupIndex = s.lra.groupIndex := rfl
@[simp] theorem mapLanes_lra_lineBuffer (s : State) (f : LaneRec → LaneRec) : (s.mapLanes f).lra.lineBuffer = s.lra.lineBuffer := rfl
@[simp] theorem mapLanes_lra_preface (s : State) (f : LaneRec → LaneRec) : (s.mapLanes f).lra.preface = s.lra.preface := rfl
@[simp] theorem mapLanes_lra_staging (s : State) (f : LaneRec → LaneRec) : (s.mapLanes f).lra.staging = s.lra.staging := rfl
@[simp] theorem mapLanes_lra_excessWords (s : State) (f : LaneRec → LaneRec) : (s.mapLanes f).lra.excessWords = s.lra.excessWords := rfl
@[simp] theorem mapLanes_lra_excessLines (s : State) (f : LaneRec → LaneRec) : (s.mapLanes f).lra.excessLines = s.lra.excessLines := rfl
@[simp] theorem mapLanes_lra_testOn (s : State) (f : LaneRec → LaneRec) : (s.mapLanes f).lra.testOn = s.lra.testOn := rfl
@[simp] theorem mapLanes_lra_prevFrameNumber (s : State) (f : LaneRec → LaneRec) : (s.mapLanes f).lra.prevFrameNumber = s.lra.prevFrameNumber := rfl

/-! ### modScan -/

@[simp] theorem modScan_pending (s : State) (f : Scan → Scan) : (s.modScan f).pending = s.pending := rfl
@[simp] theorem modScan_relayTime (s : State) (f : Scan → Scan) : (s.modScan f).relayTime = s.relayTime := rfl
@[simp] theorem modScan_panelReady (s : State) (f : Scan → Scan) : (s.modScan f).panelReady = s.panelReady := rfl
@[simp] theorem modScan_link (s : State) (f : Scan → Scan) : (s.modScan f).link = s.link := rfl
@[simp] theorem modScan_choices (s : State) (f : Scan → Scan) : (s.modScan f).choices = s.choices := rfl
@[simp] theorem modScan_idlePassed (s : State) (f : Scan → Scan) : (s.modScan f).idlePassed = s.idlePassed := rfl
@[simp] theorem modScan_lra (s : State) (f : Scan → Scan) : (s.modScan f).lra = s.lra := rfl
@[simp] theorem modScan_store (s : State) (f : Scan → Scan) : (s.modScan f).store = s.store := rfl
@[simp] theorem modScan_relay (s : State) (f : Scan → Scan) : (s.modScan f).relay = s.relay := rfl
@[simp] theorem modScan_pacing (s : State) (f : Scan → Scan) : (s.modScan f).pacing = s.pacing := rfl
@[simp] theorem modScan_ovl (s : State) (f : Scan → Scan) : (s.modScan f).ovl = s.ovl := rfl
@[simp] theorem modScan_mpt (s : State) (f : Scan → Scan) : (s.modScan f).mpt = s.mpt := rfl
@[simp] theorem modScan_records (s : State) (f : Scan → Scan) : (s.modScan f).records = s.records := rfl
@[simp] theorem modScan_peu (s : State) (f : Scan → Scan) : (s.modScan f).peu = s.peu := rfl
@[simp] theorem modScan_sco_state (s : State) (f : Scan → Scan) : (s.modScan f).sco.state = s.sco.state := rfl
@[simp] theorem modScan_sco_lastScan (s : State) (f : Scan → Scan) : (s.modScan f).sco.lastScan = s.sco.lastScan := rfl
@[simp] theorem modScan_sco_lastHoldEntry (s : State) (f : Scan → Scan) : (s.modScan f).sco.lastHoldEntry = s.sco.lastHoldEntry := rfl
@[simp] theorem modScan_sco_lastHoldExit (s : State) (f : Scan → Scan) : (s.modScan f).sco.lastHoldExit = s.sco.lastHoldExit := rfl
@[simp] theorem modScan_sco_wakeDeadline (s : State) (f : Scan → Scan) : (s.modScan f).sco.wakeDeadline = s.sco.wakeDeadline := rfl
@[simp] theorem modScan_sco_lastWakeEnding (s : State) (f : Scan → Scan) : (s.modScan f).sco.lastWakeEnding = s.sco.lastWakeEnding := rfl

/-! ### clearPlanned -/

@[simp] theorem clearPlanned_pending (s : State) : (s.clearPlanned).pending = s.pending := rfl
@[simp] theorem clearPlanned_relayTime (s : State) : (s.clearPlanned).relayTime = s.relayTime := rfl
@[simp] theorem clearPlanned_panelReady (s : State) : (s.clearPlanned).panelReady = s.panelReady := rfl
@[simp] theorem clearPlanned_link (s : State) : (s.clearPlanned).link = s.link := rfl
@[simp] theorem clearPlanned_choices (s : State) : (s.clearPlanned).choices = s.choices := rfl
@[simp] theorem clearPlanned_idlePassed (s : State) : (s.clearPlanned).idlePassed = s.idlePassed := rfl
@[simp] theorem clearPlanned_lra (s : State) : (s.clearPlanned).lra = s.lra := rfl
@[simp] theorem clearPlanned_store (s : State) : (s.clearPlanned).store = s.store := rfl
@[simp] theorem clearPlanned_relay (s : State) : (s.clearPlanned).relay = s.relay := rfl
@[simp] theorem clearPlanned_sco (s : State) : (s.clearPlanned).sco = s.sco := rfl
@[simp] theorem clearPlanned_ovl (s : State) : (s.clearPlanned).ovl = s.ovl := rfl
@[simp] theorem clearPlanned_mpt (s : State) : (s.clearPlanned).mpt = s.mpt := rfl
@[simp] theorem clearPlanned_records (s : State) : (s.clearPlanned).records = s.records := rfl
@[simp] theorem clearPlanned_peu (s : State) : (s.clearPlanned).peu = s.peu := rfl
@[simp] theorem clearPlanned_pacing_lastOpen (s : State) : (s.clearPlanned).pacing.lastOpen = s.pacing.lastOpen := rfl
@[simp] theorem clearPlanned_pacing_tminReached (s : State) : (s.clearPlanned).pacing.tminReached = s.pacing.tminReached := rfl
@[simp] theorem clearPlanned_pacing_intervals (s : State) : (s.clearPlanned).pacing.intervals = s.pacing.intervals := rfl
@[simp] theorem clearPlanned_pacing_prevArrival (s : State) : (s.clearPlanned).pacing.prevArrival = s.pacing.prevArrival := rfl
@[simp] theorem clearPlanned_pacing_prevSize (s : State) : (s.clearPlanned).pacing.prevSize = s.pacing.prevSize := rfl
@[simp] theorem clearPlanned_pacing_predicted (s : State) : (s.clearPlanned).pacing.predicted = s.pacing.predicted := rfl
@[simp] theorem clearPlanned_pacing_predictedDeclared (s : State) : (s.clearPlanned).pacing.predictedDeclared = s.pacing.predictedDeclared := rfl
@[simp] theorem clearPlanned_pacing_penalty (s : State) : (s.clearPlanned).pacing.penalty = s.pacing.penalty := rfl
@[simp] theorem clearPlanned_pacing_clean (s : State) : (s.clearPlanned).pacing.clean = s.pacing.clean := rfl
@[simp] theorem clearPlanned_pacing_referenceD (s : State) : (s.clearPlanned).pacing.referenceD = s.pacing.referenceD := rfl
@[simp] theorem clearPlanned_pacing_presented (s : State) : (s.clearPlanned).pacing.presented = s.pacing.presented := rfl
@[simp] theorem clearPlanned_pacing_repeatSource (s : State) : (s.clearPlanned).pacing.repeatSource = s.pacing.repeatSource := rfl
@[simp] theorem clearPlanned_pacing_holdReference (s : State) : (s.clearPlanned).pacing.holdReference = s.pacing.holdReference := rfl

end Sys2Proof.Machine
end

