-- ==== Sys2Proof/Laws/Outer.lean ====
section
/-! SUPPORT. What the part's own operations leave of the side that port transactions own: one lemma for each operation,
saying that it keeps `State.outer`. A statement about a command cites these in place of unfolding the operations. -/
namespace Sys2Proof.Machine

theorem outer_of_eq {s t : State} (h : t = s) : t.outer = s.outer := by rw [h]

@[simp] theorem outer_modSlot (s : State) (k : Fin 5) (f : Slot → Slot) : (s.modSlot k f).outer = s.outer := rfl
@[simp] theorem outer_raise (s : State) (c : Cause) (d : BitVec 16) : (s.raise c d).outer = s.outer := rfl
@[simp] theorem outer_send (s : State) (m : Marker) : (s.send m).outer = s.outer := rfl
@[simp] theorem outer_stat (s : State) (f : Stats → Stats) : (s.stat f).outer = s.outer := rfl

@[simp] theorem outer_foldl {α : Type} (f : State → α → State) (h : ∀ s x, (f s x).outer = s.outer)
    (xs : List α) (s : State) : (xs.foldl f s).outer = s.outer := by
  induction xs generalizing s with
  | nil => rfl
  | cons x xs ih => rw [List.foldl_cons, ih, h]

@[simp] theorem outer_eachFree {α : Type} (xs : List α) (f : State → α → State)
    (h : ∀ s x, (f s x).outer = s.outer) (s : State) : (s.eachFree xs f).outer = s.outer := by
  simp only [State.eachFree]
  rw [outer_foldl f h]
  rfl

/-! ### RecordUnit -/

@[simp] theorem outer_raiseRecordsWaiting (s : State) (p : Port) : (State.raiseRecordsWaiting s p).outer = s.outer := rfl

@[simp] theorem outer_appendRecord (s : State) (k : Fin 5) (superseded : Bool) (scan : Option NewScanPart) : (State.appendRecord s k superseded scan).outer = s.outer := by
  dsimp only [State.appendRecord]
  rw [outer_eachFree _ _ outer_raiseRecordsWaiting]
  rfl

@[simp] theorem outer_recordIfUnrecorded (s : State) (k : Fin 5) : (State.recordIfUnrecorded s k).outer = s.outer := by
  dsimp only [State.recordIfUnrecorded]
  split <;> simp

/-! ### FrameStore -/

@[simp] theorem outer_reevalRepeatFull (s : State) : (State.reevalRepeatFull s).outer = s.outer := rfl

@[simp] theorem outer_reevalRepeatDuring (s : State) (scanned : Option (Fin 5)) : (State.reevalRepeatDuring s scanned).outer = s.outer := by
  dsimp only [State.reevalRepeatDuring]
  split <;> rfl

@[simp] theorem outer_reevalRepeat (s : State) : (State.reevalRepeat s).outer = s.outer := by
  dsimp only [State.reevalRepeat]
  split <;> simp

@[simp] theorem outer_completeSlot (s : State) (k : Fin 5) : (State.completeSlot s k).outer = s.outer := by
  dsimp only [State.completeSlot]
  (repeat' split) <;> first | rfl | (simp; done) | (simp; rfl)

@[simp] theorem outer_completeIfResolved (s : State) (k : Fin 5) : (State.completeIfResolved s k).outer = s.outer := by
  dsimp only [State.completeIfResolved]
  split <;> simp

@[simp] theorem outer_checkEntry (s : State) (k : Fin 5) (j : Nat) : (State.checkEntry s k j).outer = s.outer := by
  dsimp only [State.checkEntry]
  split <;> simp

@[simp] theorem outer_lineCompleted (s : State) (k : Fin 5) (y : Nat) (concealed joins : Bool) : (State.lineCompleted s k y concealed joins).outer = s.outer := by
  dsimp only [State.lineCompleted]
  repeat' split
  all_goals first | rfl | simp

@[simp] theorem outer_lineDiscarded (s : State) (k : Fin 5) (y : Nat) : (State.lineDiscarded s k y).outer = s.outer := by simp [State.lineDiscarded]

@[simp] theorem outer_lineWritten (s : State) (l : StagedLine) : (State.lineWritten s l).outer = s.outer := by
  dsimp only [State.lineWritten]
  split <;> simp

@[simp] theorem outer_frameEnded (s : State) (k : Fin 5) : (State.frameEnded s k).outer = s.outer := by simp [State.frameEnded]

@[simp] theorem outer_cutSlice (k : Fin 5) (s : State) (j : Nat) : (State.cutSlice k s j).outer = s.outer := by simp [State.cutSlice]

@[simp] theorem outer_cutSlot (s : State) (k : Fin 5) (linesDone : Nat) : (State.cutSlot s k linesDone).outer = s.outer := by simp [State.cutSlot]

@[simp] theorem outer_freeSlot (s : State) (k : Fin 5) : (State.freeSlot s k).outer = s.outer := by
  dsimp only [State.freeSlot]
  (repeat' split) <;> first | rfl | (simp; done) | (simp; rfl)

theorem outer_takeSlot (s : State) (r : Fin 5 × State) (h : State.takeSlot s = some r) : r.2.outer = s.outer := by
  unfold State.takeSlot at h
  split at h
  · cases h; rfl
  · split at h
    · cases h; simp
    · cases h

@[simp] theorem outer_supersede (s : State) (k : Fin 5) : (State.supersede s k).outer = s.outer := by simp [State.supersede]

@[simp] theorem outer_setPinHolder (s : State) (k : Fin 5) (p : Port) (held : Bool) : (State.setPinHolder s k p held).outer = s.outer := rfl

@[simp] theorem outer_dropPin (s : State) (p : Port) : (State.dropPin s p).outer = s.outer := by
  dsimp only [State.dropPin]
  split <;> rfl

@[simp] theorem outer_expirePin (reason : Nat) (s : State) (p : Port) : (State.expirePin reason s p).outer = s.outer := by simp [State.expirePin]

@[simp] theorem outer_countDownPins (s : State) : (State.countDownPins s).outer = s.outer := by
  dsimp only [State.countDownPins]
  simp
  rfl

/-! ### RelayControl -/

@[simp] theorem outer_clearPlanned (s : State) : (State.clearPlanned s).outer = s.outer := rfl

@[simp] theorem outer_beginGrace (s : State) : (State.beginGrace s).outer = s.outer := by
  dsimp only [State.beginGrace]
  (repeat' split) <;> first | rfl | (simp; done) | (simp; rfl)

@[simp] theorem outer_relayChanged (s : State) (old new : RelayState) : (State.relayChanged s old new).outer = s.outer := by
  unfold State.relayChanged
  extract_lets p s1 s2 s3 r
  have h1 : s1.outer = s.outer := by
    simp only [s1]
    split <;> rfl
  have h2 : s2.outer = s.outer := by
    simp only [s2]
    split
    · rw [outer_beginGrace, h1]
    · exact h1
  have h3 : s3.outer = s.outer := by
    simp only [s3]
    split
    · rw [outer_clearPlanned, h2]
    · exact h2
  split <;> exact h3

@[simp] theorem outer_reevaluate (s : State) : (State.reevaluate s).outer = s.outer := by
  dsimp only [State.reevaluate]
  (repeat' split) <;> first | rfl | (simp; done) | (simp; rfl)

@[simp] theorem outer_takeMode (s : State) (m : FrameMode) : (State.takeMode s m).outer = s.outer := by
  dsimp only [State.takeMode]
  split <;> rfl

@[simp] theorem outer_wakeMemory (s : State) : (State.wakeMemory s).outer = s.outer := by
  dsimp only [State.wakeMemory]
  split <;> rfl

/-! ### Aligner -/

@[simp] theorem outer_modLane (s : State) (l : Lane) (f : LaneRec → LaneRec) : (State.modLane s l f).outer = s.outer := rfl

@[simp] theorem outer_mapLanes (s : State) (f : LaneRec → LaneRec) : (State.mapLanes s f).outer = s.outer := rfl

@[simp] theorem outer_raiseLaneFault (reason : Nat) (s : State) (l : Lane) : (State.raiseLaneFault reason s l).outer = s.outer := rfl

@[simp] theorem outer_laneFaulted (s : State) (l : Lane) : (State.laneFaulted s l).outer = s.outer := rfl

@[simp] theorem outer_installInput (s : State) : (State.installInput s).1.outer = s.outer := by
  dsimp only [State.installInput]
  split
  · rfl
  · exact outer_eachFree _ _ outer_laneFaulted _

@[simp] theorem outer_cutReceived (s : State) : (State.cutReceived s).outer = s.outer := by
  unfold State.cutReceived
  split
  · exact outer_cutSlot s _ _
  · rfl

@[simp] theorem outer_enterSearch (onLane : LaneRec → LaneRec) (s : State) : (State.enterSearch onLane s).outer = s.outer := by
  unfold State.enterSearch
  extract_lets w s1 l q s2 s3
  have h2 : s2.outer = s.outer := by
    show s1.outer = s.outer
    simp [s1]
  have h3 : s3.outer = s.outer := by
    simp only [s3]
    split
    · rw [outer_installInput, h2]
    · exact h2
  rw [outer_reevaluate, h3]

@[simp] theorem outer_loseLock (s : State) : (State.loseLock s).outer = s.outer := by simp [State.loseLock]

@[simp] theorem outer_laneLost (s : State) (_l : Lane) : (State.laneLost s _l).outer = s.outer := by
  dsimp only [State.laneLost]
  repeat' split
  all_goals first | rfl | simp

@[simp] theorem outer_applyInputNow (s : State) : (State.applyInputNow s).outer = s.outer := by simp [State.applyInputNow]

@[simp] theorem outer_cutAtBoundary (s : State) : (State.cutAtBoundary s).outer = s.outer := by
  unfold State.cutAtBoundary
  split <;> simp

@[simp] theorem outer_markPredating (s : State) : (State.markPredating s).outer = s.outer := rfl

@[simp] theorem outer_pacingLock (s : State) : (State.pacingLock s).outer = s.outer := rfl

@[simp] theorem outer_lockThird (s : State) (l : Lane) : (State.lockThird s l).outer = s.outer := by
  dsimp only [State.lockThird]
  (repeat' split) <;> first | rfl | (simp; done) | (simp; rfl)

@[simp] theorem outer_lock (onto : AlignerState) (s : State) : (State.lock onto s).outer = s.outer := by
  unfold State.lock
  extract_lets s1 s2
  have h1 : s1.outer = s.outer := by
    simp only [s1]
    split
    · exact outer_foldl _ outer_lockThird _ _
    · rfl
  have h2 : s2.outer = s.outer := by
    simp only [s2]
    rw [outer_pacingLock, outer_mapLanes, h1]
  rw [outer_reevaluate]
  exact h2

@[simp] theorem outer_restartSearch (s : State) : (State.restartSearch s).outer = s.outer := rfl

@[simp] theorem outer_searchRunEnd (s : State) : (State.searchRunEnd s).outer = s.outer := by
  dsimp only [State.searchRunEnd]
  repeat' split
  all_goals first | rfl | simp

@[simp] theorem outer_extendRun (s : State) (o : PerLane LaneOutcome) : (State.extendRun s o).outer = s.outer := rfl

@[simp] theorem outer_searchGroup (s : State) (o : PerLane LaneOutcome) : (State.searchGroup s o).outer = s.outer := by
  dsimp only [State.searchGroup]
  repeat' split
  all_goals first | rfl | simp

@[simp] theorem outer_reportOutcome (s : State) (l : Lane) (o : LaneOutcome) : (State.reportOutcome s l o).outer = s.outer := by
  dsimp only [State.reportOutcome]
  split <;> rfl

@[simp] theorem outer_countLane (o : PerLane LaneOutcome) (s : State) (l : Lane) : (State.countLane o s l).outer = s.outer := by
  dsimp only [State.countLane]
  split <;> simp

@[simp] theorem outer_countGroup (s : State) (o : PerLane LaneOutcome) : (State.countGroup s o).outer = s.outer := by
  dsimp only [State.countGroup]
  rw [outer_foldl _ outer_laneLost, outer_eachFree _ _ outer_laneFaulted, outer_foldl _ (outer_countLane o)]

@[simp] theorem outer_rejoin (s : State) (l : Lane) : (State.rejoin s l).outer = s.outer := by
  dsimp only [State.rejoin]
  simp
  rfl

@[simp] theorem outer_rejoinLane (o : PerLane LaneOutcome) (s : State) (l : Lane) : (State.rejoinLane o s l).outer = s.outer := by
  dsimp only [State.rejoinLane]
  repeat' split
  all_goals first | rfl | simp

@[simp] theorem outer_rejoinGroup (s : State) (o : PerLane LaneOutcome) : (State.rejoinGroup s o).outer = s.outer := by
  dsimp only [State.rejoinGroup]
  repeat' split
  all_goals first | rfl | simp

@[simp] theorem outer_testLane (d : PerLane Delivery) (s : State) (l : Lane) : (State.testLane d s l).outer = s.outer := by
  dsimp only [State.testLane]
  split <;> rfl

@[simp] theorem outer_goQuiet (s : State) (l : Lane) : (State.goQuiet s l).outer = s.outer := by
  dsimp only [State.goQuiet]
  split <;> simp

@[simp] theorem outer_seeActivity (s : State) (l : Lane) : (State.seeActivity s l).outer = s.outer := by
  dsimp only [State.seeActivity]
  split <;> rfl

/-! ### MemoryPort -/

@[simp] theorem outer_endCapture (s : State) (p : Port) (st : Status) (data : List Byte) : (State.endCapture s p st data).outer = s.outer := by
  cases p <;> (dsimp only [State.endCapture, PortCtl.captureResult, State.port, State.setPort]; split <;> rfl)

@[simp] theorem outer_dropCapture (s : State) (p : Port) : (State.dropCapture s p).outer = s.outer := by
  dsimp only [State.dropCapture]
  split <;> simp

@[simp] theorem outer_dropCaptures (s : State) : (State.dropCaptures s).outer = s.outer := by simp [State.dropCaptures]

@[simp] theorem outer_dropDeadHeads (s : State) : (State.dropDeadHeads s).outer = s.outer := by
  dsimp only [State.dropDeadHeads]
  split <;> rfl

@[simp] theorem outer_emptyStaging (s : State) : (State.emptyStaging s).outer = s.outer := rfl

@[simp] theorem outer_withdrawScanReads (s : State) : (State.withdrawScanReads s).outer = s.outer := rfl

@[simp] theorem outer_grantCapture (s : State) (p : Port) : (State.grantCapture s p).outer = s.outer := by
  dsimp only [State.grantCapture]
  (repeat' split) <;> first | rfl | (simp; done) | (simp; rfl)

@[simp] theorem outer_grantOnce (s : State) : (State.grantOnce s).outer = s.outer := by
  dsimp only [State.grantOnce]
  repeat' split
  all_goals first | rfl | simp

@[simp] theorem outer_arbitrateFor (n : Nat) (s : State) : (State.arbitrateFor n s).outer = s.outer := by
  induction n generalizing s with
  | zero => rfl
  | succ n ih =>
    unfold State.arbitrateFor
    split
    · rw [ih, outer_grantOnce]
    · rfl

@[simp] theorem outer_arbitrate (s : State) : (State.arbitrate s).outer = s.outer := outer_arbitrateFor 3 s

@[simp] theorem outer_retain (s : State) : (State.retain s).outer = s.outer := by simp [State.retain]

@[simp] theorem outer_enterSelfRefresh (s : State) : (State.enterSelfRefresh s).outer = s.outer := by
  dsimp only [State.enterSelfRefresh]
  simp
  rfl

@[simp] theorem outer_checkRest (s : State) : (State.checkRest s).outer = s.outer := by
  dsimp only [State.checkRest]
  split <;> simp

@[simp] theorem outer_settleMemory (s : State) : (State.settleMemory s).outer = s.outer := by simp [State.settleMemory]

@[simp] theorem outer_memoryAwake (s : State) : (State.memoryAwake s).outer = s.outer := rfl

@[simp] theorem outer_finishScanRead (s : State) (r : ScanRead) (addr : Nat) (live : Bool) : (State.finishScanRead s r addr live).outer = s.outer := rfl

@[simp] theorem outer_finishCaptureRead (s : State) (p : Port) (r : CaptureRead) (addr : Nat) (wanted : Bool) : (State.finishCaptureRead s p r addr wanted).outer = s.outer := by
  dsimp only [State.finishCaptureRead]
  (repeat' split) <;> first | rfl | (simp; done) | (simp; rfl)

@[simp] theorem outer_finishRefresh (s : State) : (State.finishRefresh s).outer = s.outer := rfl

/-! ### OverlayUnit -/

@[simp] theorem outer_installOverlay (s : State) (kind : ScanKind) : (State.installOverlay s kind).outer = s.outer := by
  dsimp only [State.installOverlay]
  split <;> rfl

/-! ### ScanUnit -/

@[simp] theorem outer_modScan (s : State) (f : Scan → Scan) : (State.modScan s f).outer = s.outer := rfl

@[simp] theorem outer_reportSlice (s : State) (cls : Option SliceClass) : (State.reportSlice s cls).outer = s.outer := by
  dsimp only [State.reportSlice]
  split <;> rfl

@[simp] theorem outer_askFallback (s : State) (c : Scan) (k : Fin 5) (j : Nat) : (State.askFallback s c k j).1.outer = s.outer := by
  dsimp only [State.askFallback]
  repeat' split
  all_goals first | rfl | simp

@[simp] theorem outer_fetchSlice (s : State) (j : Nat) : (State.fetchSlice s j).outer = s.outer := by
  unfold State.fetchSlice
  split
  · rfl
  · split
    · extract_lets s1 r d s2
      show s2.outer = s.outer
      simp [s2, r, s1]
    · rfl

@[simp] theorem outer_fetchAt (s : State) (y : Nat) : (State.fetchAt s y).outer = s.outer := by
  dsimp only [State.fetchAt]
  split <;> simp

@[simp] theorem outer_missedRead (s : State) (j : Nat) (d : SliceDecision) : (State.missedRead s j d).outer = s.outer := by simp [State.missedRead]

@[simp] theorem outer_baseLine (s : State) (c : Scan) (y : Nat) : (State.baseLine s c y).1.outer = s.outer := by
  dsimp only [State.baseLine]
  repeat' split
  all_goals first | rfl | simp

@[simp] theorem outer_drawNext (s : State) : (State.drawNext s).outer = s.outer := by
  dsimp only [State.drawNext]
  repeat' split
  all_goals first | rfl | simp

@[simp] theorem outer_beginScan (s : State) (kind : ScanKind) (k fallback : Option (Fin 5)) : (State.beginScan s kind k fallback).outer = s.outer := by
  dsimp only [State.beginScan]
  simp
  rfl

@[simp] theorem outer_reportNewScan (s : State) (c : Scan) (k : Fin 5) : (State.reportNewScan s c k).outer = s.outer := by
  unfold State.reportNewScan
  extract_lets part s1 s2
  have h2 : s2.outer = s.outer := by
    simp only [s2]
    split <;> simp [s1]
  split <;> exact h2

@[simp] theorem outer_endScan (s : State) (c : Scan) (ending : ScanEnding) : (State.endScan s c ending).outer = s.outer := by
  dsimp only [State.endScan]
  split <;> rfl

@[simp] theorem outer_closeScan (s : State) (c : Scan) : (State.closeScan s c).outer = s.outer := by
  dsimp only [State.closeScan]
  split <;> simp

/-! ### PacingEngine -/

@[simp] theorem outer_takeArrival (s : State) (w h : Nat) : (State.takeArrival s w h).outer = s.outer := by
  dsimp only [State.takeArrival]
  (repeat' split) <;> first | rfl | (simp; done) | (simp; rfl)

@[simp] theorem outer_pacingRelayout (s : State) : (State.pacingRelayout s).outer = s.outer := rfl

@[simp] theorem outer_dropPinsRelayout (s : State) : (State.dropPinsRelayout s).outer = s.outer := by simp [State.dropPinsRelayout]

@[simp] theorem outer_relayout (s : State) (c : PanelContract) : (State.relayout s c).outer = s.outer := by
  unfold State.relayout
  extract_lets s1 s2
  rw [outer_pacingRelayout]
  show s1.outer = s.outer
  simp [s1]

@[simp] theorem outer_installPanel (s : State) : (State.installPanel s).outer = s.outer := by
  dsimp only [State.installPanel]
  (repeat' split) <;> first | rfl | (simp; done) | (simp; rfl)

@[simp] theorem outer_recordOpen (s : State) (kind : ScanKind) : (State.recordOpen s kind).outer = s.outer := rfl

@[simp] theorem outer_predict (s : State) (k : Fin 5) : (State.predict s k).outer = s.outer := by
  dsimp only [State.predict]
  split <;> rfl

@[simp] theorem outer_planRepeats (s : State) : (State.planRepeats s).outer = s.outer := by
  dsimp only [State.planRepeats]
  (repeat' split) <;> first | rfl | (simp; done) | (simp; rfl)

@[simp] theorem outer_openNew (s : State) (k : Fin 5) : (State.openNew s k).outer = s.outer := by
  unfold State.openNew
  dsimp only
  rw [outer_planRepeats, outer_predict, outer_reevalRepeatDuring]
  exact outer_eachFree _ _ outer_supersede s

@[simp] theorem outer_openRepeat (s : State) (k : Fin 5) : (State.openRepeat s k).outer = s.outer := rfl

@[simp] theorem outer_openBorder (s : State) : (State.openBorder s).outer = s.outer := rfl

@[simp] theorem outer_openKind (s : State) (kind : ScanKind) (k : Option (Fin 5)) : (State.openKind s kind k).outer = s.outer := by
  dsimp only [State.openKind]
  split <;> simp

@[simp] theorem outer_openScan (s : State) : (State.openScan s).outer = s.outer := by simp [State.openScan]

@[simp] theorem outer_enterHold (s : State) : (State.enterHold s).outer = s.outer := by
  show s.clearPlanned.outer = s.outer
  simp

@[simp] theorem outer_holdOrOpen (s : State) : (State.holdOrOpen s).outer = s.outer := by
  unfold State.holdOrOpen
  split <;> simp

@[simp] theorem outer_completeWake (s : State) (ending : WakeEnding) : (State.completeWake s ending).outer = s.outer := by
  dsimp only [State.completeWake]
  split
  · simp
    rfl
  · rfl

@[simp] theorem outer_wakeLate (s : State) : (State.wakeLate s).outer = s.outer := by
  dsimp only [State.wakeLate]
  split <;> simp

@[simp] theorem outer_exitHold (s : State) (t : HoldTrigger) : (State.exitHold s t).outer = s.outer := by
  dsimp only [State.exitHold]
  (repeat' split) <;> first | rfl | (simp; done) | (simp; rfl)

@[simp] theorem outer_evaluateStart (s : State) : (State.evaluateStart s).outer = s.outer := by
  dsimp only [State.evaluateStart]
  split <;> simp

@[simp] theorem outer_respan (s before : State) : (State.respan s before).outer = s.outer := by
  dsimp only [State.respan]
  split <;> simp

@[simp] theorem outer_settle (s before : State) : (State.settle s before).outer = s.outer := by simp [State.settle]

/-! ### FrameAssembly -/

@[simp] theorem outer_voteFailed (s : State) : (State.voteFailed s).outer = s.outer := rfl

@[simp] theorem outer_takeDescriptor (s : State) (w : LaneWord) : (State.takeDescriptor s w).outer = s.outer := by
  dsimp only [State.takeDescriptor]
  split <;> rfl

@[simp] theorem outer_pixelGroup (s : State) (v : PerLane (Option LaneWord)) : (State.pixelGroup s v).outer = s.outer := by
  dsimp only [State.pixelGroup]
  (repeat' split) <;> first | rfl | (simp; done) | (simp; rfl)

@[simp] theorem outer_stageLine (s : State) (f : RxFrame) (concealed : Bool) (pixels : List Rgb) : (State.stageLine s f concealed pixels).outer = s.outer := by
  unfold State.stageLine
  extract_lets y joins s1
  have h1 : s1.outer = s.outer := outer_lineCompleted s _ _ _ _
  split
  · rw [outer_wakeMemory]
    exact h1
  · rw [outer_stat, outer_lineDiscarded, h1]

@[simp] theorem outer_lineEnd (s : State) (f : RxFrame) : (State.lineEnd s f).outer = s.outer := by
  unfold State.lineEnd
  split
  · rfl
  · extract_lets line concealed s1 s2
    have h1 : s1.outer = s.outer := outer_stageLine s _ _ _
    show s2.outer = s.outer
    simp only [s2]
    split
    · rw [outer_stat, h1]
    · exact h1

@[simp] theorem outer_frameEnd (s : State) : (State.frameEnd s).outer = s.outer := by
  unfold State.frameEnd
  split
  · extract_lets u l s1
    have h1 : s1.outer = s.outer := by
      simp only [s1]
      split
      · exact outer_frameEnded s _
      · exact outer_cutReceived s
    rw [outer_applyInputNow, h1]
  · rfl

@[simp] theorem outer_clearRejoin (s : State) : (State.clearRejoin s).outer = s.outer := rfl

@[simp] theorem outer_discardFrame (s : State) : (State.discardFrame s).outer = s.outer := rfl

@[simp] theorem outer_refuseFrame (s : State) (reason : Nat) : (State.refuseFrame s reason).outer = s.outer := by
  dsimp only [State.refuseFrame]
  simp
  rfl

@[simp] theorem outer_countFrame (s : State) (w : LaneWord) : (State.countFrame s w).outer = s.outer := rfl

@[simp] theorem outer_installFrame (s : State) (k : Fin 5) (r : Slot) : (State.installFrame s k r).outer = s.outer := rfl

theorem outer_openFrame (s : State) (w : LaneWord) (width height : Nat) (t : State) (h : State.openFrame s w width height = some t) : t.outer = s.outer := by
  unfold State.openFrame at h
  extract_lets r0 s1 r1 p1 s2 m s3 r at h
  have h1 : s1.outer = s.outer := by
    simp only [s1]
    rw [outer_reevaluate]
    rfl
  have h3 : s3.outer = s.outer := by
    simp only [s3]
    rw [outer_countFrame, outer_takeArrival, outer_takeMode]
    exact h1
  split at h
  · rename_i k s4 h4
    cases h
    rw [outer_exitHold, outer_installFrame, outer_takeSlot _ _ h4, outer_countDownPins, h3]
  · cases h

theorem outer_frameStart (s : State) (w : LaneWord) (t : State) (h : State.frameStart s w = some t) : t.outer = s.outer := by
  unfold State.frameStart at h
  extract_lets s1 p at h
  have h1 : s1.outer = s.outer := by simp [s1]
  split at h
  · rw [← Option.some.inj h, h1]
  · split at h
    · rw [← Option.some.inj h, outer_discardFrame, h1]
    · split at h
      · rw [← Option.some.inj h, outer_refuseFrame, h1]
      · rw [outer_openFrame _ _ _ _ _ h, h1]

theorem outer_takeMark (s : State) (w : LaneWord) (t : State) (h : State.takeMark s w = some t) : t.outer = s.outer := by
  unfold State.takeMark at h
  split at h
  · exact outer_frameStart s w t h
  · split at h <;> cases h <;> simp
  · cases h; simp
  · cases h; simp

theorem outer_controlGroup (s : State) (ws : List LaneWord) (t : State) (h : State.controlGroup s ws = some t) : t.outer = s.outer := by
  unfold State.controlGroup at h
  split at h
  · cases h; simp
  · split at h
    · cases h; simp
    · exact outer_takeMark _ _ _ h

@[simp] theorem outer_loneControl (s : State) (ws : List LaneWord) : (State.loneControl s ws).outer = s.outer := by
  dsimp only [State.loneControl]
  split <;> rfl

theorem outer_useWords (s : State) (aligner : AlignerState) (v : PerLane (Option LaneWord)) (t : State) (h : State.useWords s aligner v = some t) : t.outer = s.outer := by
  unfold State.useWords at h
  extract_lets ws at h
  split at h
  · cases h; simp
  · exact outer_controlGroup _ _ _ h
  · cases h; simp
  · cases h; simp

@[simp] theorem outer_takeOutcomes (s : State) (o : PerLane LaneOutcome) : (State.takeOutcomes s o).outer = s.outer := by
  dsimp only [State.takeOutcomes]
  repeat' split
  all_goals first | rfl | simp

@[simp] theorem outer_testGroup (s : State) (d : PerLane Delivery) : (State.testGroup s d).outer = s.outer := by
  dsimp only [State.testGroup]
  split <;> simp

theorem outer_closeGroup (s : State) (d : PerLane Delivery) (t : State) (h : State.closeGroup s d = some t) : t.outer = s.outer := by
  unfold State.closeGroup at h
  extract_lets s1 at h
  have h1 : s1.outer = s.outer := by simp [s1]
  split at h
  · rw [← Option.some.inj h, h1]
  · rw [outer_useWords _ _ _ _ h, h1]

end Sys2Proof.Machine
end

