-- ==== Sys2Proof/Laws/Arrive.lean ====
section
/-! SUPPORT. What the arrival of a command changes: relay time, the level of PANEL READY, the record of the link, and the
check bits of slice entries. What the end of a transaction changes: its port's own record. -/
namespace Sys2Proof.Machine

/-! ## Arrival -/

theorem strike_pending (s : State) (u : Upset) : (s.strike u).pending = s.pending := rfl
theorem strike_relayTime (s : State) (u : Upset) : (s.strike u).relayTime = s.relayTime := rfl
theorem strike_panelReady (s : State) (u : Upset) : (s.strike u).panelReady = s.panelReady := rfl
theorem strike_link (s : State) (u : Upset) : (s.strike u).link = s.link := rfl
theorem strike_choices (s : State) (u : Upset) : (s.strike u).choices = s.choices := rfl
theorem strike_idlePassed (s : State) (u : Upset) : (s.strike u).idlePassed = s.idlePassed := rfl
theorem strike_lra (s : State) (u : Upset) : (s.strike u).lra = s.lra := rfl
theorem strike_relay (s : State) (u : Upset) : (s.strike u).relay = s.relay := rfl
theorem strike_pacing (s : State) (u : Upset) : (s.strike u).pacing = s.pacing := rfl
theorem strike_sco (s : State) (u : Upset) : (s.strike u).sco = s.sco := rfl
theorem strike_ovl (s : State) (u : Upset) : (s.strike u).ovl = s.ovl := rfl
theorem strike_mpt (s : State) (u : Upset) : (s.strike u).mpt = s.mpt := rfl
theorem strike_records (s : State) (u : Upset) : (s.strike u).records = s.records := rfl
theorem strike_peu (s : State) (u : Upset) : (s.strike u).peu = s.peu := rfl

theorem foldl_keeps {α β : Type} (g : State → β) (f : State → α → State) (h : ∀ s x, g (f s x) = g s) (xs : List α)
    (s : State) : g (xs.foldl f s) = g s := by
  induction xs generalizing s with
  | nil => rfl
  | cons x xs ih => rw [List.foldl_cons, ih, h]

@[simp] theorem arrive_pending (s : State) (e : Env) : (s.arrive e).pending = s.pending :=
  foldl_keeps (·.pending) _ strike_pending e.upsets _
@[simp] theorem arrive_relayTime (s : State) (e : Env) : (s.arrive e).relayTime = s.relayTime + e.elapsed :=
  foldl_keeps (·.relayTime) _ strike_relayTime e.upsets _
@[simp] theorem arrive_panelReady (s : State) (e : Env) : (s.arrive e).panelReady = (s.panelReady && !e.panelReadyFell) :=
  foldl_keeps (·.panelReady) _ strike_panelReady e.upsets _
@[simp] theorem arrive_link (s : State) (e : Env) : (s.arrive e).link = [] :=
  foldl_keeps (·.link) _ strike_link e.upsets _
@[simp] theorem arrive_choices (s : State) (e : Env) : (s.arrive e).choices = s.choices :=
  foldl_keeps (·.choices) _ strike_choices e.upsets _
@[simp] theorem arrive_idlePassed (s : State) (e : Env) : (s.arrive e).idlePassed = s.idleAfter e.elapsed.toNat :=
  foldl_keeps (·.idlePassed) _ strike_idlePassed e.upsets _
/-- Once the idle interval has not passed at the arrival, the idle deadline is not due there. -/
theorem arrive_idle_lt (s : State) (e : Env) (o : LastOpen) (h : s.pacing.lastOpen = some o)
    (hp : (s.arrive e).idlePassed = false) : since (s.arrive e).relayTime o.time < o.idle := by
  rw [arrive_idlePassed] at hp
  refine Nat.lt_of_not_le fun hle => ?_
  rw [arrive_relayTime] at hle
  have := (idleAfter_iff s e.elapsed.toNat).2 (.inr ⟨o, h, hle.trans (since_add_le _ _ _)⟩)
  rw [hp] at this
  cases this
@[simp] theorem arrive_lra (s : State) (e : Env) : (s.arrive e).lra = s.lra :=
  foldl_keeps (·.lra) _ strike_lra e.upsets _
@[simp] theorem arrive_relay (s : State) (e : Env) : (s.arrive e).relay = s.relay :=
  foldl_keeps (·.relay) _ strike_relay e.upsets _
@[simp] theorem arrive_pacing (s : State) (e : Env) : (s.arrive e).pacing = s.pacing :=
  foldl_keeps (·.pacing) _ strike_pacing e.upsets _
@[simp] theorem arrive_sco (s : State) (e : Env) : (s.arrive e).sco = s.sco :=
  foldl_keeps (·.sco) _ strike_sco e.upsets _
@[simp] theorem arrive_ovl (s : State) (e : Env) : (s.arrive e).ovl = s.ovl :=
  foldl_keeps (·.ovl) _ strike_ovl e.upsets _
@[simp] theorem arrive_mpt (s : State) (e : Env) : (s.arrive e).mpt = s.mpt :=
  foldl_keeps (·.mpt) _ strike_mpt e.upsets _
@[simp] theorem arrive_records (s : State) (e : Env) : (s.arrive e).records = s.records :=
  foldl_keeps (·.records) _ strike_records e.upsets _
@[simp] theorem arrive_peu (s : State) (e : Env) : (s.arrive e).peu = s.peu :=
  foldl_keeps (·.peu) _ strike_peu e.upsets _
@[simp] theorem arrive_lineBytes (s : State) (e : Env) : (s.arrive e).store.lineBytes = s.store.lineBytes :=
  foldl_keeps (·.store.lineBytes) State.strike (fun _ _ => rfl) e.upsets _
@[simp] theorem arrive_slotBytes (s : State) (e : Env) : (s.arrive e).store.slotBytes = s.store.slotBytes :=
  foldl_keeps (·.store.slotBytes) State.strike (fun _ _ => rfl) e.upsets _
@[simp] theorem arrive_usable (s : State) (e : Env) : (s.arrive e).store.usable = s.store.usable :=
  foldl_keeps (·.store.usable) State.strike (fun _ _ => rfl) e.upsets _
@[simp] theorem arrive_pins (s : State) (e : Env) : (s.arrive e).store.pins = s.store.pins :=
  foldl_keeps (·.store.pins) State.strike (fun _ _ => rfl) e.upsets _
@[simp] theorem arrive_expiry (s : State) (e : Env) : (s.arrive e).store.expiry = s.store.expiry :=
  foldl_keeps (·.store.expiry) State.strike (fun _ _ => rfl) e.upsets _

/-- A fact about every slot that striking an entry keeps holds after the arrival as before. -/
theorem arrive_slot_keeps {β : Type} (g : Slot → β) (h : ∀ r j x, g (Slot.setEntry r j x) = g r) (s : State) (e : Env)
    (k : Fin 5) : g ((s.arrive e).slot k) = g (s.slot k) :=
  foldl_keeps (fun t => g (t.slot k)) State.strike
    (fun t u => by
      by_cases hk : k = u.slot
      · subst hk; simp [State.strike, h]
      · simp [State.strike, hk]) e.upsets _

@[simp] theorem arrive_slot_state (s : State) (e : Env) (k : Fin 5) : ((s.arrive e).slot k).state = (s.slot k).state :=
  arrive_slot_keeps (·.state) (fun _ _ _ => rfl) s e k
@[simp] theorem arrive_slot_frameNumber (s : State) (e : Env) (k : Fin 5) : ((s.arrive e).slot k).frameNumber = (s.slot k).frameNumber :=
  arrive_slot_keeps (·.frameNumber) (fun _ _ _ => rfl) s e k
@[simp] theorem arrive_slot_width (s : State) (e : Env) (k : Fin 5) : ((s.arrive e).slot k).width = (s.slot k).width :=
  arrive_slot_keeps (·.width) (fun _ _ _ => rfl) s e k
@[simp] theorem arrive_slot_height (s : State) (e : Env) (k : Fin 5) : ((s.arrive e).slot k).height = (s.slot k).height :=
  arrive_slot_keeps (·.height) (fun _ _ _ => rfl) s e k
@[simp] theorem arrive_slot_depth (s : State) (e : Env) (k : Fin 5) : ((s.arrive e).slot k).depth = (s.slot k).depth :=
  arrive_slot_keeps (·.depth) (fun _ _ _ => rfl) s e k
@[simp] theorem arrive_slot_rate (s : State) (e : Env) (k : Fin 5) : ((s.arrive e).slot k).rate = (s.slot k).rate :=
  arrive_slot_keeps (·.rate) (fun _ _ _ => rfl) s e k
@[simp] theorem arrive_slot_declared (s : State) (e : Env) (k : Fin 5) : ((s.arrive e).slot k).declared = (s.slot k).declared :=
  arrive_slot_keeps (·.declared) (fun _ _ _ => rfl) s e k
@[simp] theorem arrive_slot_lowlag (s : State) (e : Env) (k : Fin 5) : ((s.arrive e).slot k).lowlag = (s.slot k).lowlag :=
  arrive_slot_keeps (·.lowlag) (fun _ _ _ => rfl) s e k
@[simp] theorem arrive_slot_mode (s : State) (e : Env) (k : Fin 5) : ((s.arrive e).slot k).mode = (s.slot k).mode :=
  arrive_slot_keeps (·.mode) (fun _ _ _ => rfl) s e k
@[simp] theorem arrive_slot_scale (s : State) (e : Env) (k : Fin 5) : ((s.arrive e).slot k).scale = (s.slot k).scale :=
  arrive_slot_keeps (·.scale) (fun _ _ _ => rfl) s e k
@[simp] theorem arrive_slot_x0 (s : State) (e : Env) (k : Fin 5) : ((s.arrive e).slot k).x0 = (s.slot k).x0 :=
  arrive_slot_keeps (·.x0) (fun _ _ _ => rfl) s e k
@[simp] theorem arrive_slot_y0 (s : State) (e : Env) (k : Fin 5) : ((s.arrive e).slot k).y0 = (s.slot k).y0 :=
  arrive_slot_keeps (·.y0) (fun _ _ _ => rfl) s e k
@[simp] theorem arrive_slot_sliceHeight (s : State) (e : Env) (k : Fin 5) : ((s.arrive e).slot k).sliceHeight = (s.slot k).sliceHeight :=
  arrive_slot_keeps (·.sliceHeight) (fun _ _ _ => rfl) s e k
@[simp] theorem arrive_slot_slices (s : State) (e : Env) (k : Fin 5) : ((s.arrive e).slot k).slices = (s.slot k).slices :=
  arrive_slot_keeps (·.slices) (fun _ _ _ => rfl) s e k
@[simp] theorem arrive_slot_arrival (s : State) (e : Env) (k : Fin 5) : ((s.arrive e).slot k).arrival = (s.slot k).arrival :=
  arrive_slot_keeps (·.arrival) (fun _ _ _ => rfl) s e k
@[simp] theorem arrive_slot_lead (s : State) (e : Env) (k : Fin 5) : ((s.arrive e).slot k).lead = (s.slot k).lead :=
  arrive_slot_keeps (·.lead) (fun _ _ _ => rfl) s e k
@[simp] theorem arrive_slot_leadGate (s : State) (e : Env) (k : Fin 5) : ((s.arrive e).slot k).leadGate = (s.slot k).leadGate :=
  arrive_slot_keeps (·.leadGate) (fun _ _ _ => rfl) s e k
@[simp] theorem arrive_slot_leadReached (s : State) (e : Env) (k : Fin 5) : ((s.arrive e).slot k).leadReached = (s.slot k).leadReached :=
  arrive_slot_keeps (·.leadReached) (fun _ _ _ => rfl) s e k
@[simp] theorem arrive_slot_predatesReference (s : State) (e : Env) (k : Fin 5) : ((s.arrive e).slot k).predatesReference = (s.slot k).predatesReference :=
  arrive_slot_keeps (·.predatesReference) (fun _ _ _ => rfl) s e k
@[simp] theorem arrive_slot_linesReceived (s : State) (e : Env) (k : Fin 5) : ((s.arrive e).slot k).linesReceived = (s.slot k).linesReceived :=
  arrive_slot_keeps (·.linesReceived) (fun _ _ _ => rfl) s e k
@[simp] theorem arrive_slot_concealedLines (s : State) (e : Env) (k : Fin 5) : ((s.arrive e).slot k).concealedLines = (s.slot k).concealedLines :=
  arrive_slot_keeps (·.concealedLines) (fun _ _ _ => rfl) s e k
@[simp] theorem arrive_slot_readyCount (s : State) (e : Env) (k : Fin 5) : ((s.arrive e).slot k).readyCount = (s.slot k).readyCount :=
  arrive_slot_keeps (·.readyCount) (fun _ _ _ => rfl) s e k
@[simp] theorem arrive_slot_readyMarks (s : State) (e : Env) (k : Fin 5) : ((s.arrive e).slot k).readyMarks = (s.slot k).readyMarks :=
  arrive_slot_keeps (·.readyMarks) (fun _ _ _ => rfl) s e k
@[simp] theorem arrive_slot_completion (s : State) (e : Env) (k : Fin 5) : ((s.arrive e).slot k).completion = (s.slot k).completion :=
  arrive_slot_keeps (·.completion) (fun _ _ _ => rfl) s e k
@[simp] theorem arrive_slot_delivery (s : State) (e : Env) (k : Fin 5) : ((s.arrive e).slot k).delivery = (s.slot k).delivery :=
  arrive_slot_keeps (·.delivery) (fun _ _ _ => rfl) s e k
@[simp] theorem arrive_slot_newCount (s : State) (e : Env) (k : Fin 5) : ((s.arrive e).slot k).newCount = (s.slot k).newCount :=
  arrive_slot_keeps (·.newCount) (fun _ _ _ => rfl) s e k
@[simp] theorem arrive_slot_lateSlices (s : State) (e : Env) (k : Fin 5) :
    ((s.arrive e).slot k).lateSlices = (s.slot k).lateSlices :=
  arrive_slot_keeps (·.lateSlices) (fun _ _ _ => rfl) s e k
@[simp] theorem arrive_slot_lag (s : State) (e : Env) (k : Fin 5) : ((s.arrive e).slot k).lag = (s.slot k).lag :=
  arrive_slot_keeps (·.lag) (fun _ _ _ => rfl) s e k
@[simp] theorem arrive_slot_repeatCount (s : State) (e : Env) (k : Fin 5) : ((s.arrive e).slot k).repeatCount = (s.slot k).repeatCount :=
  arrive_slot_keeps (·.repeatCount) (fun _ _ _ => rfl) s e k
@[simp] theorem arrive_slot_superseded (s : State) (e : Env) (k : Fin 5) : ((s.arrive e).slot k).superseded = (s.slot k).superseded :=
  arrive_slot_keeps (·.superseded) (fun _ _ _ => rfl) s e k
@[simp] theorem arrive_slot_recorded (s : State) (e : Env) (k : Fin 5) : ((s.arrive e).slot k).recorded = (s.slot k).recorded :=
  arrive_slot_keeps (·.recorded) (fun _ _ _ => rfl) s e k
@[simp] theorem arrive_slot_pinHolders (s : State) (e : Env) (k : Fin 5) : ((s.arrive e).slot k).pinHolders = (s.slot k).pinHolders :=
  arrive_slot_keeps (·.pinHolders) (fun _ _ _ => rfl) s e k
@[simp] theorem arrive_slot_underScan (s : State) (e : Env) (k : Fin 5) : ((s.arrive e).slot k).underScan = (s.slot k).underScan :=
  arrive_slot_keeps (·.underScan) (fun _ _ _ => rfl) s e k

@[simp] theorem arrive_port (s : State) (e : Env) (p : Port) : (s.arrive e).port p = s.port p := by simp [State.port]
@[simp] theorem arrive_lane (s : State) (e : Env) (l : Lane) : (s.arrive e).lane l = s.lane l := by simp [State.lane]
@[simp] theorem arrive_contract (s : State) (e : Env) : (s.arrive e).contract = s.contract := by simp [State.contract]
@[simp] theorem arrive_hasRight (s : State) (e : Env) (p : Port) (r : Right) :
    (s.arrive e).hasRight p r = s.hasRight p r := by simp [State.hasRight]
@[simp] theorem arrive_mayRead (s : State) (e : Env) (p : Port) (r : Region) :
    (s.arrive e).mayRead p r = s.mayRead p r := by simp [State.mayRead, Region.readRights]; cases r <;> simp
@[simp] theorem arrive_mayWrite (s : State) (e : Env) (p : Port) (r : Region) (off n : Nat) :
    (s.arrive e).mayWrite p r off n = s.mayWrite p r off n := by simp [State.mayWrite]
@[simp] theorem arrive_outer (s : State) (e : Env) : (s.arrive e).outer = s.outer := by simp [State.outer]
@[simp] theorem arrive_pinsHeld (s : State) (e : Env) : (s.arrive e).pinsHeld = s.pinsHeld := by
  simp [State.pinsHeld, State.pinPorts]
@[simp] theorem arrive_pinLimit (s : State) (e : Env) : (s.arrive e).pinLimit = s.pinLimit := by simp [State.pinLimit]

/-- A transaction on a port with no capture transaction open begins at the arrival. -/
theorem openPort_of_no_txn (s : State) (e : Env) (p : Port) (h : (s.port p).txn = none) :
    s.openPort e p = s.arrive e := by
  simp [State.openPort, State.beginTxn, State.releaseSelect, h]

/-! ## The end of a transaction -/

/-- The end of a transaction changes its own port's record and nothing else. -/
theorem endTxn_eq (s : State) (p : Port) (st : Status) (data : List Byte) :
    s.endTxn p st data = s.setPort p
      { s.port p with
        prevStatus := st, txn := none, dataOut := [(s.port p).prevStatus.code, 0, 0, 0] ++ data } := rfl

@[simp] theorem port_endTxn_same (s : State) (p : Port) (st : Status) (data : List Byte) :
    (s.endTxn p st data).port p = (s.port p).finish st ([(s.port p).prevStatus.code, 0, 0, 0] ++ data) := by
  simp [State.endTxn]
@[simp] theorem port_endTxn_other (s : State) (p q : Port) (st : Status) (data : List Byte) (h : q ≠ p) :
    (s.endTxn p st data).port q = s.port q := by simp [State.endTxn, h]
@[simp] theorem endTxn_pending (s : State) (p : Port) (st : Status) (data : List Byte) : (s.endTxn p st data).pending = s.pending := rfl
@[simp] theorem endTxn_relayTime (s : State) (p : Port) (st : Status) (data : List Byte) : (s.endTxn p st data).relayTime = s.relayTime := rfl
@[simp] theorem endTxn_panelReady (s : State) (p : Port) (st : Status) (data : List Byte) : (s.endTxn p st data).panelReady = s.panelReady := rfl
@[simp] theorem endTxn_link (s : State) (p : Port) (st : Status) (data : List Byte) : (s.endTxn p st data).link = s.link := rfl
@[simp] theorem endTxn_choices (s : State) (p : Port) (st : Status) (data : List Byte) : (s.endTxn p st data).choices = s.choices := rfl
@[simp] theorem endTxn_idlePassed (s : State) (p : Port) (st : Status) (data : List Byte) : (s.endTxn p st data).idlePassed = s.idlePassed := rfl
@[simp] theorem endTxn_lra (s : State) (p : Port) (st : Status) (data : List Byte) : (s.endTxn p st data).lra = s.lra := rfl
@[simp] theorem endTxn_store (s : State) (p : Port) (st : Status) (data : List Byte) : (s.endTxn p st data).store = s.store := rfl
@[simp] theorem endTxn_relay (s : State) (p : Port) (st : Status) (data : List Byte) : (s.endTxn p st data).relay = s.relay := rfl
@[simp] theorem endTxn_pacing (s : State) (p : Port) (st : Status) (data : List Byte) : (s.endTxn p st data).pacing = s.pacing := rfl
@[simp] theorem endTxn_sco (s : State) (p : Port) (st : Status) (data : List Byte) : (s.endTxn p st data).sco = s.sco := rfl
@[simp] theorem endTxn_ovl (s : State) (p : Port) (st : Status) (data : List Byte) : (s.endTxn p st data).ovl = s.ovl := rfl
@[simp] theorem endTxn_mpt (s : State) (p : Port) (st : Status) (data : List Byte) : (s.endTxn p st data).mpt = s.mpt := rfl
@[simp] theorem endTxn_records (s : State) (p : Port) (st : Status) (data : List Byte) : (s.endTxn p st data).records = s.records := rfl

/-- A port without the right gets NOT_PERMITTED, and nothing else happens. -/
theorem request_refused (s : State) (p : Port) (r : Right) (data : List Byte) (act : State → State × Status)
    (h : s.hasRight p r = false) :
    s.request p r data act = s.endTxn p .notPermitted (zeros data.length) := by simp [State.request, h]

/-- A port with the right gets the block's answer. -/
theorem request_granted (s : State) (p : Port) (r : Right) (data : List Byte) (act : State → State × Status)
    (h : s.hasRight p r = true) :
    s.request p r data act = (act s).1.endTxn p (act s).2 (zeros data.length) := by simp [State.request, h]

/-! ## The step -/

theorem step_cons (c : Instr) (rest : List Instr) (s : State) (h : s.pending = c :: rest) :
    step s = exec c { s with pending := rest } := by simp [step, h]

theorem step_nil (s : State) (h : s.pending = []) : step s = .next s.tick := by simp [step, h]

end Sys2Proof.Machine
end

