-- ==== Sys2Proof/Laws/Memory.lean ====
section
/-! SUPPORT. The basic laws of the sparse memories: a write is read back, leaves every other byte alone, and keeps the
canonical form. -/
namespace Sys2Proof.Machine

/-! ## Reading -/

theorem readByte_filter (P : Nat → Bool) (m : Memory) (a : Nat) :
    readByte (m.filter fun c => P c.1) a = if P a then readByte m a else 0 := by
  induction m with
  | nil => simp [readByte]
  | cons c m ih =>
    obtain ⟨k, v⟩ := c
    by_cases hk : P k = true
    · by_cases h : k = a
      · subst h; simp [readByte, hk]
      · simp [readByte, hk, h, ih]
    · by_cases h : k = a
      · subst h; simp [readByte, hk, ih]
      · simp [readByte, hk, h, ih]

theorem readByte_of_no_key (m : Memory) (a : Nat) (h : ∀ c ∈ m, c.1 ≠ a) : readByte m a = 0 := by
  induction m with
  | nil => rfl
  | cons c m ih =>
    obtain ⟨k, v⟩ := c
    have hk : k ≠ a := h (k, v) (by simp)
    simp [readByte, hk, ih fun c hc => h c (by simp [hc])]

theorem readByte_append_left (m n : Memory) (a : Nat) (h : ∀ c ∈ m, c.1 ≠ a) : readByte (m ++ n) a = readByte n a := by
  induction m with
  | nil => rfl
  | cons c m ih =>
    obtain ⟨k, v⟩ := c
    have hk : k ≠ a := h (k, v) (by simp)
    simp [readByte, hk, ih fun c hc => h c (by simp [hc])]

theorem readByte_append_right (m n : Memory) (a : Nat) (h : ∀ c ∈ n, c.1 ≠ a) : readByte (m ++ n) a = readByte m a := by
  induction m with
  | nil => simpa [readByte] using readByte_of_no_key n a h
  | cons c m ih =>
    obtain ⟨k, v⟩ := c
    by_cases hk : k = a
    · simp [readByte, hk]
    · simp [readByte, hk, ih]

/-! ## The cells of a list of bytes -/

theorem cellsOf_key (bs : List Byte) : ∀ (base : Nat), ∀ c ∈ cellsOf base bs, base ≤ c.1 ∧ c.1 < base + bs.length := by
  induction bs with
  | nil => intro base c h; simp [cellsOf] at h
  | cons b bs ih =>
    intro base c h
    simp only [cellsOf] at h
    split at h
    · have := ih (base + 1) c h; simp; omega
    · rcases List.mem_cons.mp h with rfl | h
      · simp
      · have := ih (base + 1) c h; simp; omega

theorem cellsOf_ne_zero (bs : List Byte) : ∀ (base : Nat), ∀ c ∈ cellsOf base bs, c.2 ≠ 0 := by
  induction bs with
  | nil => intro base c h; simp [cellsOf] at h
  | cons b bs ih =>
    intro base c h
    simp only [cellsOf] at h
    split at h
    · exact ih _ c h
    · rename_i hb
      rcases List.mem_cons.mp h with rfl | h
      · exact hb
      · exact ih _ c h

theorem cellsOf_rising (bs : List Byte) : ∀ (base : Nat), (cellsOf base bs).Pairwise fun p q => p.1 < q.1 := by
  induction bs with
  | nil => intro base; simp [cellsOf]
  | cons b bs ih =>
    intro base
    simp only [cellsOf]
    split
    · exact ih _
    · refine List.pairwise_cons.mpr ⟨fun c h => ?_, ih _⟩
      have := cellsOf_key bs (base + 1) c h
      simp only; omega

theorem readByte_cellsOf (bs : List Byte) : ∀ (base a : Nat), base ≤ a →
    readByte (cellsOf base bs) a = (bs[a - base]?).getD 0 := by
  induction bs with
  | nil => intro base a _; simp [cellsOf, readByte]
  | cons b bs ih =>
    intro base a h
    by_cases ha : a = base
    · subst ha
      have hno : readByte (cellsOf (a + 1) bs) a = 0 :=
        readByte_of_no_key _ _ fun c hc => by have := cellsOf_key bs (a + 1) c hc; omega
      simp only [cellsOf]
      split
      · rename_i hb; simp [hno, hb]
      · simp [readByte]
    · have e : a - base = (a - (base + 1)) + 1 := by omega
      have step : readByte (cellsOf (base + 1) bs) a = ((b :: bs)[a - base]?).getD 0 := by
        rw [ih (base + 1) a (by omega), e, List.getElem?_cons_succ]
      simp only [cellsOf]
      split
      · exact step
      · rw [readByte, if_neg (by omega)]; exact step

/-! ## Writing -/

theorem readByte_writeBytes_below (m : Memory) (base : Nat) (bs : List Byte) (a : Nat) (h : a < base) :
    readByte (writeBytes m base bs) a = readByte m a := by
  rw [writeBytes, List.append_assoc, readByte_append_right, readByte_filter fun k => decide (k < base)]
  · simp [h]
  · intro c hc
    rcases List.mem_append.mp hc with hc | hc
    · have := cellsOf_key bs base c hc; omega
    · have := (List.mem_filter.mp hc).2; simp at this; omega

theorem readByte_writeBytes_above (m : Memory) (base : Nat) (bs : List Byte) (a : Nat) (h : base + bs.length ≤ a) :
    readByte (writeBytes m base bs) a = readByte m a := by
  rw [writeBytes, readByte_append_left, readByte_filter fun k => decide (base + bs.length ≤ k)]
  · simp [h]
  · intro c hc
    rcases List.mem_append.mp hc with hc | hc
    · have := (List.mem_filter.mp hc).2; simp at this; omega
    · have := cellsOf_key bs base c hc; omega

/-- What a write of bytes does to one byte: the byte written there, or the byte as it was. -/
theorem readByte_writeBytes (m : Memory) (base : Nat) (bs : List Byte) (a : Nat) :
    readByte (writeBytes m base bs) a =
      if base ≤ a ∧ a < base + bs.length then (bs[a - base]?).getD 0 else readByte m a := by
  split
  · rename_i h
    rw [writeBytes, readByte_append_right, readByte_append_left, readByte_cellsOf _ _ _ h.1]
    · intro c hc; have := (List.mem_filter.mp hc).2; simp at this; omega
    · intro c hc; have := (List.mem_filter.mp hc).2; simp at this; omega
  · rename_i h
    by_cases hb : a < base
    · exact readByte_writeBytes_below m base bs a hb
    · exact readByte_writeBytes_above m base bs a (by omega)

/-- Every write keeps the canonical form. -/
theorem wf_writeBytes (m : Memory) (base : Nat) (bs : List Byte) (h : Memory.wf m) : Memory.wf (writeBytes m base bs) := by
  refine ⟨?_, ?_⟩
  · rw [writeBytes, List.pairwise_append, List.pairwise_append]
    refine ⟨⟨h.1.filter _, cellsOf_rising bs base, fun p hp q hq => ?_⟩, h.1.filter _, fun p hp q hq => ?_⟩
    · have h1 := (List.mem_filter.mp hp).2; have h2 := cellsOf_key bs base q hq; simp at h1; omega
    · have h2 := (List.mem_filter.mp hq).2
      rcases List.mem_append.mp hp with hp | hp
      · have h1 := (List.mem_filter.mp hp).2; simp at h1 h2; omega
      · have h1 := cellsOf_key bs base p hp; simp at h2; omega
  · intro c hc
    rcases List.mem_append.mp hc with hc | hc
    · rcases List.mem_append.mp hc with hc | hc
      · exact h.2 c (List.mem_filter.mp hc).1
      · exact cellsOf_ne_zero bs base c hc
    · exact h.2 c (List.mem_filter.mp hc).1

theorem wf_writePixels (m : Memory) (addr : Nat) (ps : List Rgb) (h : Memory.wf m) : Memory.wf (writePixels m addr ps) :=
  wf_writeBytes _ _ _ h

theorem wf_writeOverlay (m : Memory) (off : Nat) (ps : List (Byte × Byte)) (h : Memory.wf m) :
    Memory.wf (writeOverlay m off ps) :=
  wf_writeBytes _ _ _ h

/-- Both memories have the canonical form right after reset. -/
theorem reset_canonical : State.reset.Canonical :=
  ⟨⟨List.Pairwise.nil, fun _ h => absurd h List.not_mem_nil⟩, ⟨List.Pairwise.nil, fun _ h => absurd h List.not_mem_nil⟩⟩

/-- Two memories in canonical form that read alike at every address are the same list. -/
theorem wf_ext (m n : Memory) (hm : Memory.wf m) (hn : Memory.wf n) (h : ∀ a, readByte m a = readByte n a) : m = n := by
  induction m generalizing n with
  | nil =>
    cases n with
    | nil => rfl
    | cons d n =>
      obtain ⟨k, v⟩ := d
      have := h k
      simp [readByte] at this
      exact absurd this.symm (hn.2 (k, v) (by simp))
  | cons c m ih =>
    obtain ⟨k, v⟩ := c
    have hv : v ≠ 0 := hm.2 (k, v) (by simp)
    cases n with
    | nil =>
      have := h k
      simp [readByte] at this
      exact absurd this hv
    | cons d n =>
      obtain ⟨j, w⟩ := d
      have hw : w ≠ 0 := hn.2 (j, w) (by simp)
      have mk : ∀ c ∈ m, k < c.1 := (List.pairwise_cons.mp hm.1).1
      have nk : ∀ c ∈ n, j < c.1 := (List.pairwise_cons.mp hn.1).1
      have e : k = j := by
        rcases Nat.lt_trichotomy k j with lt | rfl | gt
        · have := h k
          rw [readByte, if_pos rfl, readByte, if_neg (by omega),
            readByte_of_no_key n k fun c hc => by have := nk c hc; omega] at this
          exact absurd this hv
        · rfl
        · have := h j
          rw [readByte, if_neg (by omega), readByte_of_no_key m j fun c hc => by have := mk c hc; omega, readByte,
            if_pos rfl] at this
          exact absurd this.symm hw
      subst e
      have ev : v = w := by have := h k; simpa [readByte] using this
      subst ev
      rw [ih n ⟨(List.pairwise_cons.mp hm.1).2, fun c hc => hm.2 c (by simp [hc])⟩
        ⟨(List.pairwise_cons.mp hn.1).2, fun c hc => hn.2 c (by simp [hc])⟩ fun a => ?_]
      have := h a
      by_cases ha : k = a
      · subst ha
        rw [readByte_of_no_key m k fun c hc => by have := mk c hc; omega,
          readByte_of_no_key n k fun c hc => by have := nk c hc; omega]
      · simpa [readByte, ha] using this

end Sys2Proof.Machine
end

