-- ==== Sys2Proof/Laws/PerInstr.lean ====
section
/-! SUPPORT. The family `Rows`: a well-formed port transaction of any row but BAD_COMMAND_TRANSACTION spells bytes that
are a command of R158 and a known request of R161, and that row's bytes never are. One lemma for each constructor. -/
namespace Sys2Proof.Laws

/-- The row is BAD_COMMAND_TRANSACTION. -/
def Rows.isBadRow : Instr → Bool
  | .badCommandTransaction _ _ _ => true
  | _ => false

def Rows.Statement (i : Instr) : Prop :=
  i.wf = true → ∀ b, Machine.wire i = some b → badBytes b = Rows.isBadRow i

theorem Rows.none_of (i : Instr) (h : Machine.wire i = none) : Rows.Statement i := by
  intro _ b hb
  rw [h] at hb
  cases hb

/-- Bytes with a whole header whose command is not REQUEST are no bad transaction. -/
theorem Rows.header_ok (c : Byte) (a : Nat) (data : List Byte)
    (h : c = Machine.cmdRead ∨ c = Machine.cmdWrite ∨ c = Machine.cmdMaskedWrite) :
    badBytes (Machine.header c a data) = false := by
  rcases h with h | h | h <;> subst h <;>
    simp [badBytes, Machine.header, Machine.beBytes, Machine.badCommandBytes, Machine.unknownRequestBytes,
      Machine.cmdRead, Machine.cmdWrite, Machine.cmdMaskedWrite, Machine.cmdRequest]

/-- The bytes of a request with a number from 1 to 12 are no bad transaction. -/
theorem Rows.request_ok (n : Nat) (data : List Byte) (h1 : 1 ≤ n) (h2 : n ≤ 12) :
    badBytes (Machine.requestBytes n data) = false := by
  interval_cases n <;>
    simp [badBytes, Machine.requestBytes, Machine.requestAddress, Machine.header, Machine.beBytes,
      Machine.badCommandBytes, Machine.unknownRequestBytes, Machine.beValue,
      Machine.cmdRead, Machine.cmdWrite, Machine.cmdMaskedWrite, Machine.cmdRequest]

theorem Rows.powerOnReset (straps : Fin 4) : Rows.Statement (.powerOnReset straps) := Rows.none_of _ rfl

theorem Rows.groupPeriod (e : Env) (d : PerLane Delivery) : Rows.Statement (.groupPeriod e d) := Rows.none_of _ rfl

theorem Rows.laneQuiet (e : Env) (l : Lane) : Rows.Statement (.laneQuiet e l) := Rows.none_of _ rfl

theorem Rows.laneActivity (e : Env) (l : Lane) : Rows.Statement (.laneActivity e l) := Rows.none_of _ rfl

theorem Rows.stagingWriteCompletion (e : Env) : Rows.Statement (.stagingWriteCompletion e) := Rows.none_of _ rfl

theorem Rows.scanReadCompletion (e : Env) : Rows.Statement (.scanReadCompletion e) := Rows.none_of _ rfl

theorem Rows.captureReadCompletion (e : Env) : Rows.Statement (.captureReadCompletion e) := Rows.none_of _ rfl

theorem Rows.refreshCompletion (e : Env) : Rows.Statement (.refreshCompletion e) := Rows.none_of _ rfl

theorem Rows.refreshDue (e : Env) : Rows.Statement (.refreshDue e) := Rows.none_of _ rfl

theorem Rows.waitDeadline (e : Env) (p : Port) : Rows.Statement (.waitDeadline e p) := Rows.none_of _ rfl

theorem Rows.selfRefreshEntry (e : Env) : Rows.Statement (.selfRefreshEntry e) := Rows.none_of _ rfl

theorem Rows.memoryExitDeadline (e : Env) : Rows.Statement (.memoryExitDeadline e) := Rows.none_of _ rfl

theorem Rows.leadGate (e : Env) (k : Fin 5) : Rows.Statement (.leadGate e k) := Rows.none_of _ rfl

theorem Rows.tminGate (e : Env) : Rows.Statement (.tminGate e) := Rows.none_of _ rfl

theorem Rows.repeatDeadline (e : Env) : Rows.Statement (.repeatDeadline e) := Rows.none_of _ rfl

theorem Rows.plannedRepeat (e : Env) : Rows.Statement (.plannedRepeat e) := Rows.none_of _ rfl

theorem Rows.graceExpiry (e : Env) : Rows.Statement (.graceExpiry e) := Rows.none_of _ rfl

theorem Rows.scanLine (e : Env) : Rows.Statement (.scanLine e) := Rows.none_of _ rfl

theorem Rows.scanClose (e : Env) : Rows.Statement (.scanClose e) := Rows.none_of _ rfl

theorem Rows.panelReadyRise (e : Env) : Rows.Statement (.panelReadyRise e) := Rows.none_of _ rfl

theorem Rows.wakeDeadline (e : Env) : Rows.Statement (.wakeDeadline e) := Rows.none_of _ rfl

theorem Rows.read (e : Env) (p : Port) (addr : BitVec 24) (count : Nat) : Rows.Statement (.read e p addr count) := by
  intro _ b hb
  cases hb
  exact Rows.header_ok _ _ _ (.inl rfl)

theorem Rows.write (e : Env) (p : Port) (addr : BitVec 24) (data : List Byte) : Rows.Statement (.write e p addr data) := by
  intro _ b hb
  cases hb
  exact Rows.header_ok _ _ _ (.inr (.inl rfl))

theorem Rows.maskedWrite (e : Env) (p : Port) (addr : BitVec 24) (data : List Byte) : Rows.Statement (.maskedWrite e p addr data) := by
  intro _ b hb
  cases hb
  exact Rows.header_ok _ _ _ (.inr (.inr rfl))

theorem Rows.relayModeWordWrite (e : Env) (p : Port) (masked : Bool) (data : List Byte) : Rows.Statement (.relayModeWordWrite e p masked data) := by
  intro _ b hb
  cases hb
  exact Rows.header_ok _ _ _ (by cases masked <;> simp)

theorem Rows.enablesWrite (e : Env) (p : Port) (masked : Bool) (second : Bool) (data : List Byte) : Rows.Statement (.enablesWrite e p masked second data) := by
  intro _ b hb
  cases hb
  exact Rows.header_ok _ _ _ (by cases masked <;> simp)

theorem Rows.identificationRead (e : Env) (p : Port) (offset : Fin 4) (count : Nat) : Rows.Statement (.identificationRead e p offset count) := by
  intro _ b hb
  cases hb
  exact Rows.header_ok _ _ _ (.inl rfl)

theorem Rows.captureWindowRead (e : Env) (p : Port) (offset : BitVec 23) (count : Nat) : Rows.Statement (.captureWindowRead e p offset count) := by
  intro _ b hb
  cases hb
  exact Rows.header_ok _ _ _ (.inl rfl)

theorem Rows.selectRelease (e : Env) (p : Port) (fillers count : Nat) : Rows.Statement (.selectRelease e p fillers count) := Rows.none_of _ rfl

theorem Rows.applyInput (e : Env) (r : PortRequest) : Rows.Statement (.applyInput e r) := by
  intro _ b hb
  cases hb
  exact Rows.request_ok _ _ (by decide) (by decide)

theorem Rows.applyPanel (e : Env) (r : PortRequest) : Rows.Statement (.applyPanel e r) := by
  intro _ b hb
  cases hb
  exact Rows.request_ok _ _ (by decide) (by decide)

theorem Rows.commitOverlay (e : Env) (r : PortRequest) : Rows.Statement (.commitOverlay e r) := by
  intro _ b hb
  cases hb
  exact Rows.request_ok _ _ (by decide) (by decide)

theorem Rows.pin (e : Env) (r : PortRequest) : Rows.Statement (.pin e r) := by
  intro _ b hb
  cases hb
  exact Rows.request_ok _ _ (by decide) (by decide)

theorem Rows.release (e : Env) (r : PortRequest) : Rows.Statement (.release e r) := by
  intro _ b hb
  cases hb
  exact Rows.request_ok _ _ (by decide) (by decide)

theorem Rows.realign (e : Env) (r : PortRequest) : Rows.Statement (.realign e r) := by
  intro _ b hb
  cases hb
  exact Rows.request_ok _ _ (by decide) (by decide)

theorem Rows.relayReset (e : Env) (r : PortRequest) : Rows.Statement (.relayReset e r) := by
  intro _ b hb
  cases hb
  exact Rows.request_ok _ _ (by decide) (by decide)

theorem Rows.nextRecord (e : Env) (r : PortRequest) : Rows.Statement (.nextRecord e r) := by
  intro _ b hb
  cases hb
  exact Rows.request_ok _ _ (by decide) (by decide)

theorem Rows.ackCause (e : Env) (p : Port) (data : List Byte) : Rows.Statement (.ackCause e p data) := by
  intro _ b hb
  cases hb
  exact Rows.request_ok _ _ (by decide) (by decide)

theorem Rows.setCause (e : Env) (p : Port) (data : List Byte) : Rows.Statement (.setCause e p data) := by
  intro _ b hb
  cases hb
  exact Rows.request_ok _ _ (by decide) (by decide)

theorem Rows.laneTestOn (e : Env) (r : PortRequest) : Rows.Statement (.laneTestOn e r) := by
  intro _ b hb
  cases hb
  exact Rows.request_ok _ _ (by decide) (by decide)

theorem Rows.laneTestOff (e : Env) (r : PortRequest) : Rows.Statement (.laneTestOff e r) := by
  intro _ b hb
  cases hb
  exact Rows.request_ok _ _ (by decide) (by decide)

theorem Rows.badCommandTransaction (e : Env) (p : Port) (bytes : List Byte) : Rows.Statement (.badCommandTransaction e p bytes) := by
  intro h b hb
  cases hb
  exact h

end Sys2Proof.Laws
end

