-- ==== Sys2Proof/Tests/Slice0.lean ====
section
/-! SUPPORT. Small tests: ill-formed commands are refused, the bytes of transactions, worked figures of the manual, one step
of each command, and a witness for the hypotheses of each statement. -/
namespace Sys2Proof.Tests.Slice0
open Sys2Proof Sys2Proof.Machine

-- One theorem after another, so that the many small kernel evaluations below do not each take a thread.
set_option Elab.async false

/-! ## Ill-formed commands -/

/-- Nothing happened for `n` microseconds. -/
def after (n : Nat) : Env := { elapsed := BitVec.ofNat 32 n, panelReadyFell := false, upsets := [] }

theorem test_read_of_identification_ill_formed : (Instr.read (after 0) .system 0x000003 1).wf = false := by decide
theorem test_read_of_capture_window_ill_formed : (Instr.read (after 0) .link 0x800000 1).wf = false := by decide
theorem test_read_well_formed :
    (Instr.read (after 0) .system 0x000004 1).wf = true ∧ (Instr.read (after 0) .link 0x7FFFFF 1).wf = true := by decide
theorem test_write_of_mode_word_ill_formed : (Instr.write (after 0) .system 0x001000 [0]).wf = false := by decide
theorem test_write_of_enables_ill_formed :
    (Instr.write (after 0) .system 0x000006 [0]).wf = false ∧ (Instr.write (after 0) .link 0x000007 [0]).wf = false := by
  decide
theorem test_masked_write_of_mode_word_ill_formed :
    (Instr.maskedWrite (after 0) .system 0x001000 [0, 0]).wf = false := by decide
theorem test_release_before_its_fillers_ill_formed : (Instr.selectRelease (after 0) .link 3 2).wf = false := by decide
theorem test_bad_command_of_good_bytes_ill_formed :
    (Instr.badCommandTransaction (after 0) .link [0x01, 0, 0, 4]).wf = false ∧
      (Instr.badCommandTransaction (after 0) .link [0x04, 0x0F, 0x00, 0x0C]).wf = false := by decide
theorem test_bad_command_well_formed :
    (Instr.badCommandTransaction (after 0) .link [0x05, 0, 0, 0]).wf = true ∧
      (Instr.badCommandTransaction (after 0) .link [0x01, 0, 0]).wf = true ∧
      (Instr.badCommandTransaction (after 0) .link [0x04, 0x0F, 0x00, 0x00]).wf = true ∧
      (Instr.badCommandTransaction (after 0) .link [0x04, 0x0F, 0x00, 0x0D]).wf = true := by decide

/-! ## Bytes of transactions (R158, R174, R175), written out from the manual -/

theorem test_bytes_of_read :
    wire (.read (after 0) .system 0x020000 2) = some [0x01, 0x02, 0x00, 0x00, 0, 0] := by decide +kernel
theorem test_bytes_of_mode_word_write :
    transactionOf (after 0) .system [0x03, 0x00, 0x10, 0x00, 0x04, 0x04] =
      .relayModeWordWrite (after 0) .system true [0x04, 0x04] := by decide +kernel
theorem test_bytes_of_pin : transactionOf (after 0) .link [0x04, 0x0F, 0x00, 0x04] = .pin (after 0) ⟨.link, []⟩ := by decide +kernel
theorem test_bytes_of_ack :
    transactionOf (after 0) .link [0x04, 0x0F, 0x00, 0x09, 0x02] = .ackCause (after 0) .link [2] := by decide +kernel
theorem test_bytes_of_capture :
    transactionOf (after 0) .link [0x01, 0x80, 0x0F, 0x00, 0x00] =
      .captureWindowRead (after 0) .link 3840 1 := by decide +kernel
theorem test_bytes_of_identification :
    transactionOf (after 0) .link [0x01, 0x00, 0x00, 0x00, 0, 0, 0, 0] = .identificationRead (after 0) .link 0 4 := by
  decide +kernel

/-! ## Worked figures of the manual -/

/-- R36: 0xFF in an 8-bit frame, 0x3FF in a 10-bit frame. -/
theorem test_depth_alignment : alignComponent 8 0xFF = 4080 ∧ alignComponent 10 0x3FF = 4092 := by decide +kernel
/-- R36: left 1,000 and right 1,003. -/
theorem test_concealed_component : meanComponent 1000 1003 = 1002 := by decide +kernel
/-- R121: plane alpha 255 shows the overlay, alpha 0 the base. -/
theorem test_blend_ends :
    blendComponent 17 4095 (blendWeight (combinedAlpha 255 255)) = 4095 ∧
      blendComponent 17 4095 (blendWeight (combinedAlpha 0 255)) = 17 := by decide +kernel
/-- R98: S = 6,800 on a 2160-line panel. -/
theorem test_line_times : 6800 * 1080 / 2160 = 3400 ∧ 6800 * 2159 / 2160 = 6796 := by decide +kernel
/-- R172: YCC422 is 2, VARIABLE is 1. -/
theorem test_descriptor_codes : SampleFormat.code .ycc422 = 2 ∧ RateMode.code .variable = 1 := by decide +kernel
/-- R172: the sync pattern and the kinds of a word. -/
theorem test_word_kinds :
    hasSync 0x8000000000 = true ∧ wordKind 0x8000000000 = .fill ∧ wordKind 0x9000000000 = .pixel ∧
      wordKind 0xA100000000 = .mark ∧ wordCode 0xA100000000 = 1 ∧ wordKind 0xB300000000 = .descriptor ∧
      hasSync 0xC000000000 = false := by decide +kernel

/-! ## States for the tests -/

/-- A small panel: 64 by 64 pixels, hold supported. -/
def panel : PanelContract :=
  { pw := 64, ph := 64, tmin := 6944, tmax := 20833, span := 6800, guardTime := 100, lf := 2, holdSupported := true,
    idle := 10000, grace := 50000, holdDelay := 1000, x := 5000, e := 300, border := { r := 1, g := 2, b := 3 },
    memory := 128 }

/-- A relay with an active contract, a LOCKED aligner, and the scan-out READY `t` µs after an open at 0. -/
def relaying (t : Nat) : State :=
  { State.reset with
    relayTime := BitVec.ofNat 32 t
    relay.panel := some panel, relay.state := .relaying
    lra.aligner := .locked
    sco.state := .ready
    store.usable := 5, store.lineBytes := 512, store.slotBytes := 32768
    pacing.lastOpen := some { time := 0, tmin := 6944, tmax := 20833, idle := 10000, kind := .new }
    pacing.tminReached := decide (6944 ≤ t)
    pacing.holdReference := some 0 }

/-- A BORDER scan of the panel that has drawn `n` lines. -/
def borderScan (n : Nat) : Scan :=
  { kind := .border, slot := none, fallback := none, openTime := 0, span := 6800, pw := 64, ph := 64,
    border := panel.border, placement := none, fallbackUsable := false, nextLine := n, decisions := [], late := 0,
    damaged := 0, bordered := 0, drewBorder := false, lines := [] }

/-- `relaying` with a BORDER scan in progress. -/
def scanning (t n : Nat) : State :=
  { relaying t with sco.state := .scanning, sco.scan := some (borderScan n) }

/-- A complete frame of 64 by 64 pixels that arrived at `a`. -/
def wholeFrame (a : Stamp) : Slot :=
  { Slot.reset with
    state := .complete, width := 64, height := 64, depth := 12, mode := some .whole, scale := 1, sliceHeight := 16,
    slices := 4, arrival := a, completion := some a, delivery := some 5000 }

/-- `relaying` with a frame in slot 0 that port p pins. -/
def pinned (t : Nat) (p : Port) : State :=
  let s := (relaying t).modSlot 0 fun _ => { wholeFrame 7 with pinHolders := { system := false, link := false } }
  { s.setPinHolder 0 p true with
    store.pins := s.store.pins.set p (some { slot := 0, arrival := 7, remaining := 8 }) }

/-- The state after a command that completes, or the state before it. -/
def next (c : Instr) (s : State) : State :=
  match exec c s with
  | .next t => t
  | .fault _ => s
  | .refused _ => s

/-- The command completes. -/
def runs (c : Instr) (s : State) : Bool :=
  match exec c s with
  | .next _ => true
  | .fault _ => false
  | .refused _ => false

def same (w : LaneWord) : PerLane Delivery := { a := .inWindow w, b := .inWindow w, c := .inWindow w }

def silent : PerLane Delivery := { a := .nothing, b := .nothing, c := .nothing }

/-- The words of an LE, an FS of source frame 5, a DESCRIPTOR and a PIXEL. -/
def wordLe : LaneWord := 0xA200000000
def wordFs : LaneWord := 0xA105000000
def wordDescriptor (index value : Nat) : LaneWord := BitVec.ofNat 40 (0xB000000000 + index * 2 ^ 32 + value)
def wordPixel (v : Nat) : LaneWord := BitVec.ofNat 40 (0x9000000000 + v)

def onePixelLine : StagedLine :=
  { slot := 0, arrival := 7, line := 0, concealed := false, pixels := [{ r := 0x123, g := 0x456, b := 0x789 }] }

def onePixelRead : CaptureRead :=
  { slot := 1, arrival := 7, line := 0, first := 0, count := 1, wait := { origin := 0, span := 500 } }

/-! ## One step of each command -/

theorem test_power_on : (next (.powerOnReset 3) (relaying 9)).peu.profile = 3 := by decide +kernel
/-- R30: index 1 is the source height. -/
theorem test_descriptor :
    (next (.groupPeriod (after 1) (same (wordDescriptor 1 1080))) (scanning 9 1)).lra.preface.height = some 1080 := by
  decide +kernel
/-- R21, R24: 32 misses on one lane with concealment permitted make the aligner DEGRADED. -/
theorem test_thirty_second_miss :
    ((next (.groupPeriod (after 1) { same 0x8000000000 with b := .nothing })
      ((scanning 9 1).modLane .b fun x => { x with missCount := 31 })).lra.aligner) = .degraded := by decide +kernel
theorem test_lane_quiet : ((next (.laneQuiet (after 1) .c) (scanning 9 1)).lane .c).state = .quiet := by decide +kernel
theorem test_lane_activity :
    ((next (.laneActivity (after 1) .c)
      ((scanning 9 1).modLane .c fun x => { x with state := .quiet })).lane .c).activitySeen = true := by decide +kernel
/-- R13, R137: pixel 0 fills the first four and a half bytes. -/
theorem test_staging_write :
    readBytes (next (.stagingWriteCompletion (after 1)) { scanning 9 1 with
      mpt.transfer := some (.stagingWrite onePixelLine 32768 false) }).mpt.frameMemory 32768 5 =
      [0x12, 0x34, 0x56, 0x78, 0x90] := by decide +kernel
/-- R150: each component as 16 bits, most significant byte first. -/
theorem test_capture_completion :
    ((next (.captureReadCompletion (after 1)) { (scanning 9 1).setPort .link
        { PortCtl.reset with txn := some .waiting } with
      mpt.frameMemory := [(32769, 0xF0), (32770, 0x0F)]
      mpt.transfer := some (.captureRead .link onePixelRead 32768 true) }).port .link).txn =
      some (.ready .ok [0x00, 0x0F, 0x00, 0x0F, 0x00, 0x00]) := by decide +kernel
/-- R135: the owed count stops at 8. -/
theorem test_ninth_refresh :
    (next (.refreshDue (after 1)) { scanning 9 1 with mpt.owed := 8, mpt.transfer := some .refresh }).mpt.owed = 8 := by
  decide +kernel
theorem test_refresh_completion :
    (next (.refreshCompletion (after 1)) { scanning 9 1 with mpt.owed := 1, mpt.transfer := some .refresh }).mpt.owed =
      0 := by decide +kernel
/-- R92: in RELAYING the deadline is Tmax. -/
theorem test_repeat_deadline :
    (next (.repeatDeadline (after 0)) (relaying 20833)).sco.state = .scanning ∧
      (next (.repeatDeadline (after 0)) (relaying 20832)).sco.state = .ready := by decide +kernel
/-- R12, R34: a relayout while the frame assembly is DISCARDING leaves it so. -/
theorem test_relayout_while_discarding :
    (next (.repeatDeadline (after 0)) { relaying 20833 with
      relay.waitingPanel := some { panel with pw := 128 }, lra.assembly := .discarding }).lra.assembly =
      .discarding := by decide +kernel
theorem test_scan_close :
    (next (.scanClose (after 0)) (scanning 6800 64)).link = [.scanClose] ∧
      (next (.scanClose (after 0)) (scanning 6799 64)).link = [] := by decide +kernel
/-- R98: line 1 of 64 falls at floor(6,800 / 64) = 106 µs. -/
theorem test_scan_line :
    ((next (.scanLine (after 0)) (scanning 106 1)).sco.scan.map (·.nextLine)) = some 2 ∧
      ((next (.scanLine (after 0)) (scanning 105 1)).sco.scan.map (·.nextLine)) = some 1 := by decide +kernel
theorem test_panel_ready_rise :
    (next (.panelReadyRise (after 0)) { relaying 9000 with sco.state := .waking }).sco.lastWakeEnding = some .ready := by
  decide +kernel
/-- R84: no scan opens before the Tmin gate. -/
theorem test_wake_before_the_gate :
    (next (.panelReadyRise (after 0)) { relaying 6943 with sco.state := .waking }).sco.state = .ready ∧
      (next (.panelReadyRise (after 1)) { relaying 6943 with sco.state := .waking }).sco.state = .scanning := by
  decide +kernel
/-- R158, R175: the relay mode word after power-on reset is 0x79. -/
theorem test_read_mode_word :
    ((next (.read (after 0) .system 0x001000 1) (relaying 9)).port .system).dataOut = [0, 0, 0, 0, 0x79] := by
  decide +kernel
/-- R163: under profile 0 the SYSTEM port does not own CONCEAL_PERMIT. -/
theorem test_mode_word_not_owned :
    ((next (.relayModeWordWrite (after 0) .system true [0x44, 0x04]) (relaying 9)).peu.modeWord) = 0x7D ∧
      ((next (.relayModeWordWrite (after 0) .system true [0x44, 0x04]) (relaying 9)).port .system).prevStatus =
        .partialWrite := by decide +kernel
theorem test_pin_not_held :
    ((next (.release (after 0) ⟨.link, []⟩) (relaying 9)).port .link).prevStatus = .pinNotHeld := by decide +kernel
/-- R161: a 0 is shifted out for each data byte sent with a request. -/
theorem test_request_with_data :
    ((next (.pin (after 0) ⟨.link, [7, 9]⟩) (relaying 9)).port .link).dataOut = [0, 0, 0, 0, 0, 0] := by decide +kernel
theorem test_pin_granted :
    ((next (.pin (after 0) ⟨.link, []⟩) (pinned 9 .system)).store.pins.get .link).map (·.remaining) = some 8 := by
  decide +kernel

/-! ## Witnesses: each shows states and operands that meet the hypotheses of the statement it is named after -/

theorem witness_EmptyQueueTicks :
    State.reset.pending = [] ∧ (relaying 9).pending = [] ∧ (relaying 9).pacing.lastOpen ≠ none := by decide +kernel

/-- SEARCH after `n` qualifying groups with every mark set. -/
def searching (n : Nat) : State :=
  { State.reset with
    lra.searchRun := n
    lra.lanes := State.reset.lra.lanes.map fun x => { x with mark := true } }

theorem witness_SearchRunFollowsTheGroups :
    ((searching 6).lra.aligner = .search ∧ (searching 6).lra.testOn = false ∧
      (searching 6).lra.assembly ≠ .receiving ∧ (searching 6).lra.searchRun < 7 ∧
      2 ≤ (searching 6).lanesInWindow (outcomes { same 0x8000000000 with c := .nothing })) ∧
    ((searching 7).lra.aligner = .search ∧ (searching 7).lra.testOn = false ∧
      (searching 7).lra.assembly ≠ .receiving ∧
      (searching 7).lanesInWindow (outcomes { silent with c := .inWindow 0x8000000000 }) < 2) := by decide +kernel

/-- A group in which lanes A and B are in window and lane C delivers nothing. -/
def twoOfThree : PerLane Delivery := { same 0x8000000000 with c := .nothing }

theorem witness_EighthGroupLocks :
    (searching 7).lra.aligner = .search ∧ (searching 7).lra.testOn = false ∧
      (searching 7).lra.assembly ≠ .receiving ∧ (searching 7).lra.searchRun = 7 ∧
      (∀ l, ((searching 7).lane l).mark = true ∧
        ((searching 7).lane l).searchOutcome ((outcomes (same 0x8000000000)).get l) = true) ∧
      (searching 7).concealPermit = true ∧
      (∀ m, m ≠ .c → ((searching 7).lane m).mark = true ∧
        ((searching 7).lane m).searchOutcome ((outcomes twoOfThree).get m) = true) ∧
      (((searching 7).lane .c).mark && ((searching 7).lane .c).searchOutcome ((outcomes twoOfThree).get .c)) = false :=
  ⟨rfl, rfl, by decide, rfl, fun l => by cases l <;> decide +kernel, by decide +kernel,
    fun m h => by cases m <;> first | decide +kernel | exact absurd rfl h, by decide +kernel⟩

/-- The third part, at each of its two cases. -/
theorem witness_EighthGroupLocks_restarts :
    (let s : State := { searching 7 with peu.modeWord := 0x39 };
      s.lra.searchRun = 7 ∧ 2 ≤ s.lanesInWindow (outcomes twoOfThree) ∧
        s.lanesThroughout (outcomes twoOfThree) = 2 ∧ s.concealPermit = false) ∧
    (let s : State := (searching 7).modLane .b fun x => { x with mark := false };
      s.lra.searchRun = 7 ∧ 2 ≤ s.lanesInWindow (outcomes twoOfThree) ∧
        s.lanesThroughout (outcomes twoOfThree) < 2) := by decide +kernel

/-- A group in which lane A is in window, lane B out of window and lane C delivers nothing. -/
def mixed : PerLane Delivery := { a := .inWindow 0x8000000000, b := .outOfWindow 0x8000000000, c := .nothing }

theorem witness_CountsFollowOutcomes :
    (relaying 9).lra.aligner ≠ .search ∧ (relaying 9).relay.waitingInput = none ∧
      (∀ l w, deliveredWord (mixed.get l) = some w → wordKind w = .fill) ∧
      ∀ l, ((relaying 9).lane l).state = .active →
        ((relaying 9).lane l).countFaults (relaying 9).relay.input ((outcomes mixed).get l) = false := by
  refine ⟨by decide, rfl, ?_, fun l _ => by cases l <;> decide +kernel⟩
  intro l w h
  have g : deliveredWord (mixed.get l) = none ∨ deliveredWord (mixed.get l) = some 0x8000000000 := by
    cases l <;> decide +kernel
  rcases g with g | g
  · rw [g] at h; cases h
  · rw [g] at h; cases h; decide +kernel

/-- `relaying` without CONCEAL_PERMIT, lane B one miss from its limit. -/
def oneMissLeft : State :=
  { (relaying 9).modLane .b fun x => { x with missCount := 31 } with peu.modeWord := 0x39 }

theorem witness_FaultWithoutConcealLosesLock :
    oneMissLeft.lra.aligner = .locked ∧ oneMissLeft.concealPermit = false ∧
      (∀ m, (oneMissLeft.lane m).state = .active) ∧
      (oneMissLeft.lane .b).countFaults oneMissLeft.relay.input ((outcomes silent).get .b) = true ∧
      ∀ m, m ≠ .b → (oneMissLeft.lane m).countFaults oneMissLeft.relay.input ((outcomes silent).get m) = false :=
  ⟨rfl, by decide +kernel, fun m => by cases m <;> rfl, by decide +kernel,
    fun m h => by cases m <;> first | decide +kernel | exact absurd rfl h⟩

theorem relaying_lanes_active (t : Nat) (l : Lane) : ((relaying t).lane l).state = .active := by cases l <;> rfl

theorem witness_TheVoteDecides :
    ((relaying 9).lra.aligner = .locked ∧ (∀ l, ((relaying 9).lane l).state = .active) ∧
      ∀ i ∈ [0, 6, 7, 15], hasSync (wordDescriptor i 3) = true ∧ wordKind (wordDescriptor i 3) = .descriptor ∧
        wordCode (wordDescriptor i 3) = i) ∧
    ((relaying 9).relay.waitingPanel = none ∧
      hasSync wordLe = true ∧ hasSync wordFs = true ∧ hasSync (wordDescriptor 0 1) = true ∧
      isControl wordLe = true ∧ isControl wordFs = true ∧ isControl (wordDescriptor 0 1) = true ∧
      sameWord wordLe wordFs = false ∧ sameWord wordLe (wordDescriptor 0 1) = false ∧
      sameWord wordFs (wordDescriptor 0 1) = false) :=
  ⟨⟨rfl, relaying_lanes_active 9, by decide +kernel⟩, by decide +kernel⟩

/-- A frame of 65 by 64 pixels in slot 0, being received. -/
def rxFrame : RxFrame := { slot := 0, arrival := 7, width := 65, height := 64, depth := 12 }

/-- `scanning` while the last line of `rxFrame` is received, 21 of its groups done, with a full staging queue but one. -/
def receiving : State :=
  { (scanning 9 1).modSlot 0 fun _ => { wholeFrame 7 with state := .filling } with
    lra.assembly := .receiving, lra.frame := some rxFrame, lra.linesDone := 63, lra.groupIndex := 21
    lra.lineBuffer := List.replicate 63 none
    lra.staging := List.replicate 63 { onePixelLine with slot := 1 } }

theorem receiving_lanes_active (l : Lane) : (receiving.lane l).state = .active := by cases l <;> rfl

theorem witness_PixelGroupExtendsTheLine :
    receiving.lra.aligner = .locked ∧ (∀ l, (receiving.lane l).state = .active) ∧ receiving.relay.waitingPanel = none ∧
      receiving.lra.assembly = .receiving ∧ receiving.lra.frame = some rxFrame ∧
      receiving.lra.linesDone < rxFrame.height ∧ receiving.lra.groupIndex < ceilDiv rxFrame.width 3 ∧
      receiving.lra.lineBuffer.length = 3 * receiving.lra.groupIndex ∧ hasSync (wordPixel 1) = true ∧
      wordKind (wordPixel 1) = .pixel :=
  ⟨rfl, receiving_lanes_active, rfl, rfl, rfl, by decide, by decide, by decide, by decide +kernel, by decide +kernel⟩

theorem witness_ConcealmentByNearestNeighbours :
    ([none, some { r := 1, g := 2, b := 3 }] : List (Option Rgb)).length ≤ 3 ∧ (0 < 3 ∧ 2 < 3) := by decide

theorem witness_LineEndStagesTheLine :
    receiving.lra.aligner = .locked ∧ (∀ l, (receiving.lane l).state = .active) ∧ receiving.sco.state ≠ .ready ∧
      receiving.lra.assembly = .receiving ∧ receiving.lra.frame = some rxFrame ∧
      receiving.lra.linesDone < rxFrame.height ∧ receiving.lra.staging.length < 64 ∧
      receiving.holdsFrame rxFrame.slot rxFrame.arrival = true ∧ hasSync wordLe = true ∧ wordKind wordLe = .mark ∧
      wordCode wordLe = 2 :=
  ⟨rfl, receiving_lanes_active, by decide, rfl, rfl, by decide, by decide, by decide +kernel, by decide +kernel,
    by decide +kernel, by decide +kernel⟩

/-- `scanning` with a held preface of `w` by 64 pixels, RGB444, 12 bits. -/
def prefaced (w : Nat) : State :=
  { scanning 9 1 with lra.preface := { Preface.reset with
      width := some (BitVec.ofNat 32 w), height := some 64, format := some .rgb444, depth := some 12 } }

theorem prefaced_lanes_active (w : Nat) (l : Lane) : ((prefaced w).lane l).state = .active := by cases l <;> rfl

theorem witness_RefusedFrameTouchesNoSlot :
    (prefaced 65).lra.aligner = .locked ∧ (∀ l, ((prefaced 65).lane l).state = .active) ∧
      (prefaced 65).sco.state = .scanning ∧ (prefaced 65).lra.assembly = .gap ∧ (prefaced 65).relay.state ≠ .idle ∧
      (prefaced 65).lra.preface.refusal (prefaced 65).contract.pw (prefaced 65).contract.ph
        (prefaced 65).relay.input.depths = some 1 ∧
      hasSync wordFs = true ∧ wordKind wordFs = .mark ∧ wordCode wordFs = 1 :=
  ⟨rfl, prefaced_lanes_active 65, rfl, rfl, by decide, by decide +kernel, by decide +kernel, by decide +kernel,
    by decide +kernel⟩

theorem witness_AcceptedFrameOpensASlot :
    (prefaced 64).lra.aligner = .locked ∧ (∀ l, ((prefaced 64).lane l).state = .active) ∧
      (prefaced 64).sco.state = .scanning ∧ (prefaced 64).lra.assembly = .gap ∧ (prefaced 64).relay.state ≠ .idle ∧
      (prefaced 64).lra.preface.refusal (prefaced 64).contract.pw (prefaced 64).contract.ph
        (prefaced 64).relay.input.depths = none ∧
      (prefaced 64).lra.preface.width = some 64 ∧ (prefaced 64).lra.preface.height = some 64 ∧
      (prefaced 64).lowestFree = some 0 ∧ hasSync wordFs = true ∧ wordKind wordFs = .mark ∧ wordCode wordFs = 1 :=
  ⟨rfl, prefaced_lanes_active 64, rfl, rfl, by decide, by decide +kernel, rfl, rfl, by decide +kernel,
    by decide +kernel, by decide +kernel, by decide +kernel⟩

/-- Both frame modes, and the values a PASS frame's lead is computed from. -/
theorem witness_AcceptedFrameOpensASlot_lead :
    frameModeFor (prefaced 64).lowlag (prefaced 64).lra.preface.lowlag = .whole ∧
      frameModeFor (prefaced 64).lowlag true = .pass ∧
      (∀ m : BitVec 32, m = 64 ∨ m = 63 → (prefaced 64).pacing.prevSize.any (fun z => decide (z ≠ (m.toNat, 64))) = false) ∧
      (prefaced 64).pacing.referenceD = none ∧ (prefaced 64).pacing.penalty = 0 :=
  ⟨by decide +kernel, by decide +kernel, fun _ _ => rfl, rfl, rfl⟩

theorem witness_LaneLineEvents :
    ((relaying 9).lane .a).state ≠ .quiet ∧ (relaying 9).relay.waitingInput = none ∧
      (relaying 9).relay.waitingPanel = none ∧
      (((relaying 9).modLane .a fun x => { x with state := .quiet }).lane .a).state = .quiet := by decide +kernel

/-- `scanning` with a transfer in progress. -/
def moving (x : Transfer) : State := { scanning 9 1 with mpt.transfer := some x }

theorem witness_StagingWriteStoresTheLine :
    (moving (.stagingWrite onePixelLine 32768 true)).mpt.transfer = some (.stagingWrite onePixelLine 32768 true) := rfl

/-- `moving` a line of a slice that lacks one line of its capacity, ten lines in the queue. -/
def lastLine : State :=
  { (moving (.stagingWrite onePixelLine 32768 true)).modSlot 0 fun _ =>
      { wholeFrame 7 with state := .draining }.setEntry 0 { state := .filling, written := 15, discarded := false, check := .good } with
    lra.staging := List.replicate 10 onePixelLine }

/-- The parts on the queue and the slices, the last one once the slot is FREE. -/
theorem witness_StagingWriteStoresTheLine_slices :
    lastLine.mpt.transfer = some (.stagingWrite onePixelLine 32768 true) ∧
      lastLine.lra.staging = onePixelLine :: List.replicate 9 onePixelLine ∧ lastLine.sco.state = .scanning ∧
      lastLine.holdsFrame onePixelLine.slot onePixelLine.arrival = true ∧
      0 = onePixelLine.line / (lastLine.slot 0).sliceHeight ∧
      ((lastLine.arrive (after 0)).slot 0).entry 0 =
        { state := .filling, written := 15, discarded := false, check := .good } ∧
      15 + 1 = ((lastLine.arrive (after 0)).slot 0).capacity 0 ∧
      (lastLine.freeSlot onePixelLine.slot).holdsFrame onePixelLine.slot onePixelLine.arrival = false := by decide +kernel

/-- A placement of a 64 by 64 frame over the whole panel. -/
def wholePlacement : Placement :=
  { scale := 1, x0 := 0, y0 := 0, width := 64, height := 64, sliceHeight := 16, slices := 4 }

/-- A NEW scan of slot 0 that has drawn one line, its second slice not read yet. -/
def newScan : Scan :=
  { borderScan 1 with
    kind := .new, slot := some 0, placement := some wholePlacement, decisions := List.replicate 4 default }

theorem witness_ScanReadDeliversTheLine :
    let r : ScanRead := { slot := 0, line := 1, width := 64 }
    let s : State := { moving (.scanRead r 512 true) with sco.scan := some newScan }
    s.mpt.transfer = some (.scanRead r 512 true) ∧ s.sco.scan = some newScan ∧
      newScan.placement = some wholePlacement ∧ newScan.nextLine ≤ wholePlacement.lastPanelLine r.line ∧
      newScan.nextLine = wholePlacement.lastPanelLine r.line :=
  ⟨rfl, rfl, rfl, by decide, by decide⟩

/-- A port whose capture transaction waits, with its read queued. -/
def waitingRead : State :=
  { (scanning 500 1).setPort .link { PortCtl.reset with txn := some .waiting } with
    mpt.capture := { system := none, link := some onePixelRead } }

theorem witness_CaptureReadAnswersOk :
    let s : State := { waitingRead with mpt.transfer := some (.captureRead .link onePixelRead 32768 true) }
    s.mpt.transfer = some (.captureRead .link onePixelRead 32768 true) ∧ (s.port .link).txn = some .waiting :=
  ⟨rfl, rfl⟩

theorem witness_RefreshOwedRisesAndFalls :
    (scanning 9 1).sco.state ≠ .holding ∧ (scanning 9 1).mpt.timerRunning = true ∧
      (State.mpt { scanning 9 1 with mpt.timerRunning := false }).timerRunning = false ∧
      (moving .refresh).sco.state ≠ .holding ∧ (moving .refresh).mpt.transfer = some .refresh := by decide +kernel

theorem witness_WaitDeadlineEndsTheRead :
    waitingRead.mpt.capture.get .link = some onePixelRead ∧ waitingRead.captureGranted .link = false ∧
      onePixelRead.wait.due (waitingRead.arrive (after 0)).relayTime = true ∧
      (waitingRead.port .link).txn = some .waiting := by decide +kernel

/-- The panel holds, with a frame in slot 0 pinned by the LINK port and another in slot 1. -/
def holding : State :=
  { (pinned 30000 .link).modSlot 1 fun _ => wholeFrame 9 with sco.state := .holding }

theorem witness_MemoryRestsAndWakes :
    (holding.mayRest = true ∧ (0 : Fin 5).val < holding.store.usable ∧ (holding.slot 0).pinHolders.link = true ∧
      (holding.slot 1).state = .complete ∧ holding.pacing.repeatSource ≠ some 1) ∧
    (let s : State := { scanning 300 1 with mpt.power := .waking, mpt.exitDeadline := some { origin := 0, span := 300 } };
      s.mpt.power = .waking ∧ (Deadline.due { origin := 0, span := 300 } (s.arrive (after 0)).relayTime = true) ∧
      s.sco.state ≠ .holding) :=
  ⟨⟨by decide +kernel, by decide, by decide +kernel, by decide +kernel, by decide⟩, by decide +kernel⟩

/-- A complete PASS frame in slot 0 whose lead gate falls at 8,000. -/
def leading : State :=
  (relaying 8000).modSlot 0 fun _ =>
    { wholeFrame 7000 with mode := some .pass, leadGate := some { origin := 7000, span := 1000 }, lead := some 1000 }

theorem witness_LeadGateOpensTheScan :
    (0 : Fin 5).val < leading.store.usable ∧ (leading.slot 0).state = .complete ∧
      (leading.slot 0).mode = some .pass ∧ (leading.slot 0).newCount = 0 ∧ (leading.slot 0).superseded = false ∧
      (∀ j, j ≠ 0 → leading.unscanned j = false) ∧
      (leading.slot 0).leadGate = some { origin := 7000, span := 1000 } ∧ (leading.slot 0).leadReached = false ∧
      Deadline.due { origin := 7000, span := 1000 } (leading.arrive (after 0)).relayTime = true ∧
      leading.sco.state = .ready ∧ leading.relay.state ≠ .idle ∧ leading.pacing.tminReached = true ∧
      leading.relay.waitingPanel = none := by decide +kernel

/-- The other states of the slot, and a FILLING one with a READY slice too few. -/
theorem witness_LeadGateOpensTheScan_states :
    (∀ x : SlotState, x = .filling ∨ x = .draining ∨ x = .short →
      let s := leading.modSlot 0 fun r => { r with state := x, readyCount := 2 }
      (s.slot 0).state = x ∧ s.contract.lf ≤ (s.slot 0).readyCount ∧ (s.slot 0).leadReached = false ∧
        (∀ j, j ≠ 0 → s.unscanned j = false) ∧ s.sco.state = .ready ∧ s.pacing.tminReached = true) ∧
    (let s := leading.modSlot 0 fun r => { r with state := .filling, readyCount := 1 };
      (s.slot 0).state = .filling ∧ (s.slot 0).readyCount < s.contract.lf ∧ (s.slot 0).mode = some .pass ∧
        (∀ j, j ≠ 0 → s.unscanned j = false) ∧ s.sco.state = .ready) := by
  refine ⟨fun x h => ?_, by decide +kernel⟩
  rcases h with rfl | rfl | rfl <;> decide +kernel

/-- `relaying` at the Tmin gate, a repeat waiting for it. -/
def waitingRepeat : State := { relaying 6944 with pacing.tminReached := false, pacing.waitingRepeat := true }

theorem witness_TminGateIsTaken :
    (let s : State := { scanning 6944 64 with pacing.tminReached := false };
      s.relay.state ≠ .idle ∧ s.tminGate = some { origin := 0, span := 6944 } ∧ s.pacing.tminReached = false ∧
      Deadline.due { origin := 0, span := 6944 } (s.arrive (after 0)).relayTime = true ∧
      s.pacing.waitingRepeat = false ∧ s.sco.state = .scanning) ∧
    (waitingRepeat.relay.state ≠ .idle ∧ waitingRepeat.tminGate = some { origin := 0, span := 6944 } ∧
      waitingRepeat.pacing.tminReached = false ∧
      Deadline.due { origin := 0, span := 6944 } (waitingRepeat.arrive (after 0)).relayTime = true ∧
      waitingRepeat.pacing.waitingRepeat = true ∧ waitingRepeat.sco.state = .ready ∧
      (waitingRepeat.arrive (after 0)).mayHold = false ∧
      (State.arrive { waitingRepeat with peu.modeWord := 0x7D } (after 0)).mayHold = true) := by decide +kernel

theorem witness_RepeatDeadlineHoldsOrOpens :
    (relaying 20833).relay.state ≠ .idle ∧ (relaying 20833).sco.state = .ready ∧
      (relaying 20833).repeatDeadline = some { origin := 0, span := 20833 } ∧
      Deadline.due { origin := 0, span := 20833 } ((relaying 20833).arrive (after 0)).relayTime = true ∧
      ((relaying 20833).arrive (after 0)).mayHold = false ∧
      (State.arrive { relaying 20833 with peu.modeWord := 0x7D } (after 0)).mayHold = true := by decide +kernel

theorem witness_PlannedRepeatOpensOrWaits :
    (let s : State := { scanning 6000 9 with pacing.planned := [{ origin := 0, span := 6000 }] };
      s.relay.state ≠ .idle ∧ s.sco.state = .scanning ∧ s.pacing.planned = [{ origin := 0, span := 6000 }] ∧
      Deadline.due { origin := 0, span := 6000 } (s.arrive (after 0)).relayTime = true ∧
      s.pacing.tminReached = false) ∧
    (let s : State := { relaying 8000 with pacing.planned := [{ origin := 0, span := 8000 }] };
      s.relay.state ≠ .idle ∧ s.sco.state = .ready ∧ s.pacing.planned = [{ origin := 0, span := 8000 }] ∧
      Deadline.due { origin := 0, span := 8000 } (s.arrive (after 0)).relayTime = true ∧
      s.pacing.tminReached = true ∧ (s.arrive (after 0)).mayHold = false) := by decide +kernel

theorem witness_GraceExpires :
    let s : State := { scanning 50007 64 with
      relay.state := .border, relay.graceFlag := true, relay.graceEnd := some { origin := 7, span := 50000 } }
    s.relay.state = .border ∧ s.relay.graceFlag = true ∧ s.relay.graceEnd = some { origin := 7, span := 50000 } ∧
      Deadline.due { origin := 7, span := 50000 } (s.arrive (after 0)).relayTime = true ∧ s.sco.state = .scanning := by
  decide +kernel

theorem witness_ScanLineSendsOneLine :
    (scanning 6693 63).sco.state = .scanning ∧ (scanning 6693 63).sco.scan = some (borderScan 63) ∧
      (borderScan 63).placement = none ∧ (borderScan 63).nextLine < (borderScan 63).ph ∧
      (borderScan 63).span * (borderScan 63).nextLine / (borderScan 63).ph ≤
        (((scanning 6693 63).arrive (after 0)).relayTime - (borderScan 63).openTime).toNat := by decide +kernel

/-- A scan in progress with a placement, about to draw line `n`. -/
def drawing (n : Nat) (c : Scan) : State :=
  { scanning (6800 * n / 64) n with sco.scan := some { c with nextLine := n } }

/-- The second part: a delivered line, a line not delivered, a slice decided BORDER, at the region's first line after
panel line 0 and at its last. -/
theorem witness_ScanLineSendsOneLine_inside :
    let d : SliceDecision := { choice := .scanned, cls := some .good }
    let c : Scan := { newScan with decisions := [d, { d with choice := .fallback }, { d with choice := .border }, d] }
    (∀ n ∈ [1, 63], (drawing n c).sco.state = .scanning ∧ 0 < n ∧ n < c.ph ∧
      c.span * n / c.ph ≤ (((drawing n c).arrive (after 0)).relayTime - c.openTime).toNat ∧
      c.placement = some wholePlacement ∧ wholePlacement.y0 ≤ n ∧
      n < wholePlacement.y0 + wholePlacement.scale * wholePlacement.height ∧
      c.decisions[(n - wholePlacement.y0) / wholePlacement.scale / wholePlacement.sliceHeight]? = some d) ∧
      (({ c with lines := [(63, [])] } : Scan).lines.find? fun x => decide (x.1 = 63)) = some (63, []) ∧
      (c.lines.find? fun x => decide (x.1 = 63)) = none ∧
      c.decisions[32 / 16]? = some { d with choice := .border } := by decide +kernel

/-- The first part at the two edges of a source region, and the third at a fetch line inside one and outside one. -/
theorem witness_ScanLineSendsOneLine_fetch :
    (let p : Placement := { wholePlacement with y0 := 20, height := 40, slices := 3 };
      19 < p.y0 ∧ p.y0 + p.scale * p.height ≤ 60 ∧ p.y0 + p.scale * p.sliceHeight * 1 = 4 + 2 * p.scale * p.sliceHeight ∧
        4 < p.y0) ∧
    (let s := drawing 16 newScan;
      s.sco.state = .scanning ∧ s.sco.scan = some { newScan with nextLine := 16 } ∧ newScan.slot = some 0 ∧ 16 < newScan.ph ∧
        newScan.span * 16 / newScan.ph ≤ ((s.arrive (after 0)).relayTime - newScan.openTime).toNat ∧
        3 < wholePlacement.slices ∧ 3 < newScan.decisions.length ∧
        wholePlacement.y0 + wholePlacement.scale * wholePlacement.sliceHeight * 3 =
          16 + 2 * wholePlacement.scale * wholePlacement.sliceHeight ∧
        (((s.arrive (after 0)).slot 0).entry 3).check = .good ∧ newScan.fallback = none) := by decide +kernel

/-- A NEW scan of a PASS frame with `late` late slices, at its close. -/
def closing (late : Nat) : State :=
  { (scanning 6800 64).modSlot 0 fun _ => { wholeFrame 7 with mode := some .pass, newCount := 1, lag := some 9 } with
    sco.scan := some { newScan with nextLine := 64, late := late } }

theorem witness_ScanCloseReportsTheScan_new :
    (∀ late ∈ [0, 1], ((closing late).sco.scan.map fun c => (c.kind, c.slot, c.nextLine)) = some (.new, some 0, 64) ∧
      newScan.ph = 64 ∧ newScan.span ≤ (((closing late).arrive (after 0)).relayTime - newScan.openTime).toNat ∧
      (closing late).pacing.tminReached = false ∧ (closing late).pacing.lastOpen ≠ none ∧
      ((closing late).slot 0).mode = some .pass) ∧
    (borderScan 64).kind ≠ .new ∧ (scanning 6800 64).pacing.tminReached = false ∧
      (scanning 6800 64).pacing.lastOpen ≠ none := by decide +kernel

theorem witness_ScanCloseReportsTheScan :
    (scanning 6800 64).sco.scan = some (borderScan 64) ∧ (borderScan 64).nextLine = (borderScan 64).ph ∧
      (borderScan 64).span ≤ (((scanning 6800 64).arrive (after 0)).relayTime - (borderScan 64).openTime).toNat := by
  decide +kernel

theorem witness_WakeCompletesWithAnOpen :
    let s : State := { relaying 14000 with
      sco.state := .waking, sco.wakeDeadline := some { origin := 9000, span := 5000 } }
    s.sco.state = .waking ∧ s.sco.wakeDeadline = some { origin := 9000, span := 5000 } ∧
      Deadline.due { origin := 9000, span := 5000 } (s.arrive (after 0)).relayTime = true ∧
      (s.arrive (after 0)).panelReady = false ∧ s.pacing.tminReached = true ∧
      (relaying 14000).sco.state ≠ .waking := by decide +kernel

/-- A wake at the Tmin gate, whose reach is not yet taken, and a microsecond before it. -/
theorem witness_WakeCompletesWithAnOpen_gate :
    let s (t : Nat) : State := { relaying t with sco.state := .waking, pacing.tminReached := false }
    (s 6944).tminGate = some { origin := 0, span := 6944 } ∧
      Deadline.due { origin := 0, span := 6944 } ((s 6944).arrive (after 0)).relayTime = true ∧
      (s 6943).sco.state = .waking ∧ (s 6943).pacing.tminReached = false ∧
      Deadline.due { origin := 0, span := 6944 } ((s 6943).arrive (after 0)).relayTime = false := by decide +kernel

theorem witness_BlendOfOnePixel :
    ∀ a ∈ [0, 127, 128, 255], a ≤ 255 ∧ 255 ≤ 255 ∧ (a * 255 + 127) / 255 = a := by decide

theorem witness_ReadReturnsTheRegion :
    ((relaying 9).port .system).txn = none ∧ regionOf (0x000004 : BitVec 24).toNat = some (.eventView, 4) ∧
      regionOf (0x02AFFF : BitVec 24).toNat = some (.view .counters, 4095) ∧ Region.eventView ≠ .captureWindow ∧
      4 ≤ (0x000004 : BitVec 24).toNat ∧ (relaying 9).mayRead .system .eventView = true ∧
      (relaying 9).mayRead .system (.view .counters) = true := by decide +kernel

theorem witness_DeniedAccessIsTrapped :
    (let s : State := { relaying 9 with peu.profile := 3 };
      (s.port .link).txn = none ∧ regionOf (0x031000 : BitVec 24).toNat = some (.recordView, 0) ∧
        Region.recordView ≠ .captureWindow ∧ s.mayRead .link .recordView = false) ∧
    (((relaying 9).port .link).txn = none ∧ regionOf (0x003000 : BitVec 24).toNat = some (.pendingPanel, 0) ∧
      (relaying 9).mayWrite .link .pendingPanel 0 ([1] : List Byte).length = false ∧
      (relaying 9).mayWrite .link .pendingPanel 0 (([1, 2] : List Byte).length / 2) = false) := by decide +kernel

theorem witness_DeniedAccessIsTrapped_others :
    (((relaying 9).port .link).txn = none ∧
      (let s : State := { relaying 9 with peu.profile := 3 };
        s.hasRight .link .pin = false ∧ s.hasRight .link .modeFields = false)) ∧
    (if false then 1 else 2) < (if false then ([1, 2, 3] : List Byte).length / 2 else ([1, 2, 3] : List Byte).length) ∧
    (if true then 1 else 2) < (if true then ([1, 2, 3, 4] : List Byte).length / 2 else 0) := by decide +kernel

theorem witness_WriteStoresInOverlayMemory :
    ((relaying 9).port .system).txn = none ∧ 0x010000 ≤ (0x010000 : BitVec 24).toNat ∧
      (0x01FFFF : BitVec 24).toNat < 0x020000 ∧ (relaying 9).hasRight .system .overlay = true ∧
      (relaying 9).hasRight .system .panel = true ∧ ((relaying 9).port .link).txn = none ∧
      (relaying 9).hasRight .link .input = true := by decide +kernel

theorem witness_MaskedWriteMergesBits :
    ((relaying 9).port .link).txn = none ∧ (relaying 9).hasRight .link .pin = true := by decide +kernel

theorem witness_ModeWordWriteByField :
    ((relaying 9).port .link).txn = none ∧ (relaying 9).hasRight .link .modeFields = true ∧
      (relaying 9).lra.aligner ≠ .degraded := by decide +kernel

theorem witness_ClearingConcealLosesLock :
    let s : State := { relaying 9 with lra.aligner := .degraded }
    (s.port .link).txn = none ∧ ownedMask s.peu.profile .link &&& 0x40 ≠ 0 ∧ s.lra.aligner = .degraded ∧
      s.concealPermit = true := by decide +kernel

theorem witness_EnablesWriteSetsTheLine : ((relaying 9).port .link).txn = none := rfl

/-- The second part, at the widest of its forms. -/
theorem witness_EnablesWriteSetsTheLine_masked (hm hv lm lv : Byte) :
    (true, false, [hm, hv, lm, lv], hm, hv, lm, lv) ∈
      [(false, false, [hv], 0xFF, hv, 0, 0), (false, true, [lv], 0, 0, 0xFF, lv),
       (true, false, [hm, hv], hm, hv, 0, 0), (true, true, [lm, lv], 0, 0, lm, lv),
       (true, false, [hm, hv, lm, lv], hm, hv, lm, lv)] := by simp

theorem witness_IdentificationReadFreezes : ((relaying 9).port .system).txn = none := rfl

theorem witness_CaptureReadNeedsAPinAndWaits :
    (((relaying 9).port .link).txn = none ∧ (relaying 9).hasRight .link .pin = true ∧
      (relaying 9).store.pins.get .link = none) ∧
    (let s : State := { pinned 9 .link with mpt.transfer := some .refresh };
      (s.port .link).txn = none ∧ s.hasRight .link .pin = true ∧
        s.store.pins.get .link = some { slot := 0, arrival := 7, remaining := 8 } ∧
        (241983 : BitVec 23).toNat / 3840 < (s.slot 0).height ∧ (241983 : BitVec 23).toNat % 3840 < (s.slot 0).width ∧
        s.mpt.transfer ≠ none ∧ s.mpt.power = .active) := by decide +kernel

theorem witness_SelectReleaseEndsTheTransaction :
    (waitingRead.port .link).txn = some .waiting ∧
      ((State.setPort waitingRead .link { PortCtl.reset with txn := some (.ready .ok [1]) }).port .link).txn =
        some (.ready .ok [1]) := by decide +kernel

theorem witness_RequestsNeedTheirRight :
    let s : State := { relaying 9 with peu.profile := 3 }
    (s.port .link).txn = none ∧ s.hasRight .link .input = false ∧ s.hasRight .link .panel = false ∧
      s.hasRight .link .overlay = false ∧ s.hasRight .link .pin = false ∧ s.hasRight .link .relayReset = false ∧
      s.hasRight .link .records = false := by decide +kernel

theorem witness_ApplyInputAnswers :
    ((relaying 9).port .link).txn = none ∧ (relaying 9).hasRight .link .input = true ∧
      (State.relay { relaying 9 with relay.waitingInput := some InputContract.reset }).waitingInput ≠ none ∧
      (relaying 9).relay.waitingInput = none ∧ (relaying 9).peu.pendingInput.valid = true ∧
      InputContract.valid { InputContract.reset with sliceHeight := 9 } = false ∧
      (receiving.lra.assembly = .receiving ∧ receiving.lra.frame ≠ none ∧ receiving.lra.aligner ≠ .search ∧
        receiving.lra.testOn = false ∧ receiving.relay.waitingInput = none ∧ receiving.peu.pendingInput.valid = true ∧
        (receiving.port .link).txn = none ∧ receiving.hasRight .link .input = true) ∧
      ((searching 1).lra.assembly ≠ .receiving ∧ (searching 1).lra.aligner = .search ∧
        (searching 1).relay.waitingInput = none ∧ (searching 1).peu.pendingInput.valid = true ∧
        ((searching 1).port .link).txn = none ∧ (searching 1).hasRight .link .input = true) := by decide +kernel

theorem witness_ApplyPanelAnswers :
    (let s : State := { relaying 9 with relay.waitingPanel := some panel };
      (s.port .system).txn = none ∧ s.hasRight .system .panel = true ∧ s.relay.waitingPanel ≠ none) ∧
    ((relaying 9).relay.waitingPanel = none ∧ (relaying 9).peu.pendingPanel.valid = false) ∧
    (let s : State := { relaying 9 with peu.pendingPanel := panel };
      (s.port .system).txn = none ∧ s.hasRight .system .panel = true ∧ s.relay.waitingPanel = none ∧
        s.peu.pendingPanel.valid = true ∧ s.relay.state ≠ .idle ∧ s.sco.state ≠ .holding) ∧
    (let s : State := { State.reset with peu.pendingPanel := panel };
      (s.port .system).txn = none ∧ s.hasRight .system .panel = true ∧ s.relay.waitingPanel = none ∧
        s.peu.pendingPanel.valid = true ∧ s.relay.state = .idle ∧ s.relay.panel = none) := by decide +kernel

theorem witness_CommitTakesASnapshot :
    (((relaying 9).port .system).txn = none ∧ (relaying 9).hasRight .system .overlay = true ∧
      (relaying 9).sco.state ≠ .holding) ∧
    ((holding.port .system).txn = none ∧ holding.hasRight .system .overlay = true ∧ holding.sco.state = .holding ∧
      (holding.arrive (after 0)).panelReady = false ∧ 0 < holding.contract.x) := by decide +kernel

theorem witness_PinAnswers :
    (((pinned 9 .link).port .link).txn = none ∧ (pinned 9 .link).hasRight .link .pin = true ∧
      (pinned 9 .link).store.pins.get .link ≠ none) ∧
    (((pinned 9 .system).port .link).txn = none ∧ (pinned 9 .system).hasRight .link .pin = true ∧
      (pinned 9 .system).store.pins.get .link = none ∧
      (pinned 9 .system).pinsHeld + 1 ≤ (pinned 9 .system).pinLimit ∧
      ((pinned 9 .system).arrive (after 0)).newestComplete = some 0) ∧
    (let s : State := { pinned 9 .system with store.usable := 4 };
      (s.port .link).txn = none ∧ s.hasRight .link .pin = true ∧ s.store.pins.get .link = none ∧
        s.pinLimit < s.pinsHeld + 1) ∧
    ((relaying 9).store.pins.get .link = none ∧ (relaying 9).pinsHeld + 1 ≤ (relaying 9).pinLimit ∧
      ((relaying 9).arrive (after 0)).newestComplete = none) := by decide +kernel

theorem witness_ReleaseEndsThePin :
    ((pinned 9 .link).port .link).txn = none ∧ (pinned 9 .link).hasRight .link .pin = true ∧
      (pinned 9 .link).store.pins.get .link = some { slot := 0, arrival := 7, remaining := 8 } ∧
      (relaying 9).store.pins.get .link = none := by decide +kernel

theorem witness_RealignRestartsTheSearch :
    ((relaying 9).port .link).txn = none ∧ (relaying 9).hasRight .link .input = true ∧
      (relaying 9).relay.waitingInput = none := by decide +kernel

/-- The cut, with a slice on each side of it. -/
theorem witness_RealignRestartsTheSearch_cut :
    (receiving.port .link).txn = none ∧ receiving.hasRight .link .input = true ∧ receiving.relay.waitingInput = none ∧
      receiving.sco.state = .scanning ∧ receiving.lra.assembly = .receiving ∧ receiving.lra.frame = some rxFrame ∧
      (receiving.slot rxFrame.slot).slices ≤ 270 ∧
      receiving.lra.linesDone < 3 * (receiving.slot 0).sliceHeight + (receiving.slot 0).capacity 3 ∧
      2 * (receiving.slot 0).sliceHeight + (receiving.slot 0).capacity 2 ≤ receiving.lra.linesDone := by decide +kernel

theorem witness_LaneTestStartsAndStops :
    (((relaying 9).port .link).txn = none ∧ (relaying 9).hasRight .link .input = true ∧
      (relaying 9).relay.waitingInput = none ∧ (relaying 9).relay.panel ≠ none ∧
      State.reset.relay.panel = none ∧ State.reset.sco.state = .quiet ∧ (relaying 9).lra.testOn = false) ∧
    (let s : State := { relaying 9 with lra.testOn := true };
      (s.port .link).txn = none ∧ s.hasRight .link .input = true ∧ s.lra.testOn = true) := by decide +kernel

theorem witness_LaneTestChecksEachWord :
    let s : State := { searching 0 with lra.testOn := true }
    s.lra.testOn = true ∧ s.lra.aligner = .search ∧ s.lra.assembly ≠ .receiving ∧
      deliveredWord ((same wordLe).get .b) = some wordLe ∧ (s.lane .b).generator = none ∧
      ((s.modLane .b fun x => { x with generator := some 1 }).lane .b).generator = some 1 := by decide +kernel

theorem witness_RelayResetFreesEverySlot :
    (State.reset.sco.state = .quiet ∧ State.reset.relay.panel = none ∧ (State.reset.port .system).txn = none ∧
      State.reset.hasRight .system .relayReset = true) ∧
    (((scanning 9999 64).port .system).txn = none ∧ (scanning 9999 64).hasRight .system .relayReset = true ∧
      (scanning 9999 64).sco.state = .scanning ∧ (scanning 9999 64).sco.scan = some (borderScan 64) ∧
      (scanning 9999 64).sco.state ≠ .quiet ∧ (scanning 9999 64).relay.panel ≠ none ∧
      (scanning 9999 64).pacing.lastOpen ≠ none ∧ ((scanning 9999 64).arrive (after 0)).idlePassed = false) := by
  decide +kernel

/-- A hold at relay time `n`, the idle interval noted as passed or not. -/
def held (n : Nat) (passed : Bool) : State := { relaying n with sco.state := .holding, idlePassed := passed }

/-- A reset that ends a hold just as the idle interval has passed, and one after a wrap of relay time. -/
theorem witness_RelayResetFreesEverySlot_holding :
    (((held 10000 false).port .system).txn = none ∧ (held 10000 false).hasRight .system .relayReset = true ∧
      (held 10000 false).sco.state = .holding ∧ (held 10000 false).relay.panel ≠ none ∧
      1 ≤ (held 10000 false).contract.holdDelay) ∧
    ((held 9999 false).arrive (after 0)).idlePassed = false ∧ ((held 9999 false).arrive (after 1)).idlePassed = true ∧
      ((held 5 true).arrive (after 0)).idlePassed = true := by decide +kernel

/-- R127: a hold longer than a turn of relay time still ends a reset with a BORDER scan. -/
theorem test_reset_after_a_wrap :
    ∃ t, exec (.relayReset (after 0) ⟨.system, []⟩) (held 5 true) = .next t ∧ t.sco.state = .scanning ∧
      t.link.take 2 = [.holdExit, .scanOpen .border] ∧ t.idlePassed = false :=
  ⟨_, rfl, by decide +kernel, by decide +kernel, by decide +kernel⟩

/-- Two records in the ring, `n` of them unread at the LINK port. -/
def unreadRecords (n : Nat) : State :=
  let x := frameRecord 0 (wholeFrame 7) false none
  { relaying 9 with
    records.ring := [x, x]
    records.readers := { system := Reader.reset, link := { Reader.reset with unread := n } } }

theorem witness_NextRecordReadsTheOldest :
    ((unreadRecords 2).port .link).txn = none ∧ (unreadRecords 2).hasRight .link .records = true ∧
      ((unreadRecords 0).records.readers.get .link).unread = 0 ∧
      ((unreadRecords 2).records.readers.get .link).unread = 1 + 1 := by decide +kernel

theorem witness_AckCauseClearsOne :
    ((relaying 9).port .link).txn = none ∧ Cause.recordsWaiting ∈ allCauses ∧
      ((0 : Byte) = 0 ∨ 12 < (0 : Byte).toNat) ∧ ((13 : Byte) = 0 ∨ 12 < (13 : Byte).toNat) := by decide +kernel

theorem witness_SetCauseEntersOne :
    ((relaying 9).port .link).txn = none ∧ Cause.accessDenied ∈ allCauses ∧
      ((relaying 9).port .link).frozen = none ∧
      ((0 : Byte) = 0 ∨ 12 < (0 : Byte).toNat) ∧ ((13 : Byte) = 0 ∨ 12 < (13 : Byte).toNat) := by decide +kernel

theorem witness_BadTransactionsDoNothing :
    ((relaying 9).port .link).txn = none ∧ badBytes [] = true ∧ badBytes [0x01, 0, 0] = true ∧
      badBytes [0x00, 0, 0, 0] = true ∧ badBytes [0x05, 0, 0, 0] = true ∧ badBytes [0x04, 0x0F, 0x00, 0x00] = true ∧
      badBytes [0x04, 0x0F, 0x00, 0x0D] = true := by decide +kernel

theorem witness_TransactionBytesRoundTrip :
    (Instr.read (after 0) .link 0x7FFFFF 1).wf = true ∧
      sender (.read (after 0) .link 0x7FFFFF 1) = some (after 0, .link) ∧
      wire (.read (after 0) .link 0x7FFFFF 1) = some [0x01, 0x7F, 0xFF, 0xFF, 0] := by decide +kernel

/-! ### The invariants: a state that meets each, from which a step goes on -/

/-- A relay that scans, with a pin held, a byte in each memory, and a READ waiting. -/
def alive : State :=
  { pinned 9 .link with
    pending := [.read (after 1) .system 0x001000 1]
    sco.state := .scanning, sco.scan := some (borderScan 1)
    ovl.memory := [(5, 1)], mpt.frameMemory := [(7, 1)] }

theorem alive_steps : ∃ t, step alive = .next t := ⟨_, rfl⟩

theorem witness_MemoriesStayCanonical : alive.Canonical := ⟨by decide +kernel, by decide +kernel⟩

theorem witness_ModeWordStaysLegal :
    alive.ModeLegal ∧ (∀ k, Instr.read (after 1) .system 0x001000 1 ≠ .powerOnReset k) ∧
      ∃ t, exec (.read (after 1) .system 0x001000 1) alive = .next t :=
  ⟨⟨by decide +kernel, by decide +kernel⟩, fun _ h => (by cases h), _, rfl⟩

theorem witness_PinsStayInAgreement : alive.PinsAgree := by
  refine ⟨?_, ?_, ?_, by decide +kernel⟩
  · intro p k
    have h : (alive.slot k).pinHolders.get p = decide ((alive.store.pins.get p).map (·.slot) = some k) := by
      revert k; cases p <;> decide +kernel
    rw [h]; cases alive.store.pins.get p <;> simp
  · intro p x h
    cases p
    · exact absurd h (by simp [alive, pinned, relaying, State.reset, State.powerOn, Store.reset, State.setPinHolder, State.modSlot, PerPort.get, PerPort.set])
    · cases h; decide +kernel
  · intro p x h
    cases p
    · exact absurd h (by simp [alive, pinned, relaying, State.reset, State.powerOn, Store.reset, State.setPinHolder, State.modSlot, PerPort.get, PerPort.set])
    · cases h; decide

theorem witness_ScanOutStaysInAgreement : alive.ScanAgrees := ⟨by decide +kernel, by decide +kernel, by decide +kernel⟩

theorem witness_BoundsAreKept : alive.RingBounded ∧ alive.CountsLimited ∧ alive.QueuesBounded :=
  ⟨⟨by decide, fun p => by cases p <;> decide, fun p => by cases p <;> decide, by decide⟩,
    ⟨fun l => by cases l <;> decide +kernel, fun l => by cases l <;> decide +kernel⟩,
    ⟨by decide, by decide, by decide, by decide, by decide⟩⟩

end Sys2Proof.Tests.Slice0
end

section
/-! The step as an induction: what a property needs so that every command, and so every step, keeps it. -/
namespace Sys2Proof.Machine

/-- A property that each operation a command is made of keeps. `Invariant.step` derives from it that every step keeps
the property, so that the walk through the commands is made once. -/
structure Invariant (P : State → Prop) : Prop where
  tick : ∀ s, P s → P s.tick
  pop : ∀ s rest, P s → P { s with pending := rest }
  arrive : ∀ s e, P s → P (s.arrive e)
  powerOn : ∀ straps s, P s → P
    { State.powerOn straps with pending := s.pending, choices := s.choices, panelReady := s.panelReady }
  setPort : ∀ s p x, P s → P (s.setPort p x)
  raise : ∀ s c d, P s → P (s.raise c d)
  settle : ∀ s before, P s → P (s.settle before)
  settleMemory : ∀ s, P s → P s.settleMemory
  closeGroup : ∀ s d t, P s → s.closeGroup d = some t → P t
  goQuiet : ∀ s l, P s → P (s.goQuiet l)
  seeActivity : ∀ s l, P s → P (s.seeActivity l)
  finishStagingWrite : ∀ s l a q, P s → P (s.finishStagingWrite l a q)
  finishScanRead : ∀ s r a live, P s → P (s.finishScanRead r a live)
  finishCaptureRead : ∀ s p r a w, P s → P (s.finishCaptureRead p r a w)
  finishRefresh : ∀ s, P s → P s.finishRefresh
  oweRefresh : ∀ s, P s → P { s with mpt.owed := satInc 8 s.mpt.owed }
  endCapture : ∀ s p st data, P s → P (s.endCapture p st data)
  withdrawCapture : ∀ s p, P s → P (s.withdrawCapture p)
  setCapture : ∀ s x, P s → P { s with mpt.capture := x }
  wakeMemory : ∀ s, P s → P s.wakeMemory
  memoryAwake : ∀ s, P s → P s.memoryAwake
  leadReached : ∀ s k, P s → P (s.modSlot k fun r => { r with leadReached := true })
  tminReached : ∀ s, P s → s.relay.state ≠ .idle → P (State.openWaiting { s with pacing.tminReached := true })
  holdOrOpen : ∀ s, P s → s.relay.state ≠ .idle → s.sco.state = .ready → P s.holdOrOpen
  takePlanned : ∀ s, P s → s.relay.state ≠ .idle →
    P (State.takePlanned { s with pacing.planned := s.pacing.planned.drop 1 })
  endGrace : ∀ s, P s → P { s.clearPlanned with relay.graceFlag := false, relay.graceEnd := none }
  drawNext : ∀ s, P s → P s.drawNext
  closeScan : ∀ s c, P s → s.sco.scan = some c → P (s.closeScan c)
  panelReady : ∀ s, P s → P { s with panelReady := true }
  completeWake : ∀ s ending, P s → s.sco.state = .waking → P (s.completeWake ending)
  writeModeWord : ∀ s p ps, P s → P (s.writeModeWord p ps).1
  writeRegion : ∀ s p r off ps, P s → P (s.writeRegion p r off ps)
  requestInput : ∀ s, P s → P s.requestInput.1
  requestPanel : ∀ s, P s → P s.requestPanel.1
  requestCommit : ∀ s, P s → P s.requestCommit.1
  requestPin : ∀ s p, P s → P (s.requestPin p).1
  requestRelease : ∀ s p, P s → P (s.requestRelease p).1
  requestRealign : ∀ s, P s → P s.requestRealign.1
  requestReset : ∀ s, P s → P s.requestReset.1
  requestRecord : ∀ s p, P s → P (s.requestRecord p).1
  requestTestOn : ∀ s, P s → P s.requestTestOn.1
  requestTestOff : ∀ s, P s → P s.requestTestOff.1

namespace Invariant

variable {P : State → Prop} (I : Invariant P)
include I

/-! ### Port transactions -/

theorem endTxn (s : State) (p : Port) (st : Status) (data : List Byte) (h : P s) : P (s.endTxn p st data) :=
  I.setPort s p _ h

theorem endBad (s : State) (p : Port) (st : Status) (count : Nat) (h : P s) : P (s.endBad p st count) :=
  I.setPort s p _ h

theorem deny (s : State) (p : Port) (command : Byte) (addr : BitVec 24) (count : Nat) (h : P s) :
    P (s.deny p command addr count) :=
  I.endTxn _ p _ _ (I.raise _ _ _ (I.setPort s p _ h))

theorem releaseSelect (s : State) (p : Port) (fillers count : Nat) (h : P s) : P (s.releaseSelect p fillers count) := by
  unfold State.releaseSelect
  split
  · exact h
  · exact I.settleMemory _ (I.endTxn _ p _ _ (I.withdrawCapture s p h))
  · exact I.endTxn s p _ _ h

theorem openPort (s : State) (e : Env) (p : Port) (h : P s) : P (s.openPort e p) :=
  I.releaseSelect _ p 0 0 (I.arrive s e h)

theorem takeCapture (s : State) (p : Port) (off count : Nat) (h : P s) : P (s.takeCapture p off count) := by
  unfold State.takeCapture
  split
  · exact I.deny s p _ _ _ h
  · split
    · exact I.endTxn s p _ _ h
    · dsimp only
      split
      · exact I.settleMemory _ (I.setPort _ p _ (I.wakeMemory _ (I.setCapture s _ h)))
      · exact I.endTxn s p _ _ h

theorem readRegion (s : State) (p : Port) (addr : BitVec 24) (r : Region) (off count : Nat) (h : P s) :
    P (s.readRegion p addr r off count) := by
  unfold State.readRegion
  split
  · refine I.endTxn _ p _ _ ?_
    unfold State.freezeOnRead
    split
    · exact I.setPort s p _ h
    · exact h
  · exact I.deny s p _ _ _ h

theorem takeRead (s : State) (p : Port) (addr : BitVec 24) (count : Nat) (h : P s) : P (s.takeRead p addr count) := by
  unfold State.takeRead
  split
  · exact I.endTxn s p _ _ h
  · exact I.takeCapture s p _ _ h
  · exact I.readRegion s p _ _ _ _ h

theorem takeWrite (s : State) (p : Port) (masked : Bool) (addr : BitVec 24) (data : List Byte) (h : P s) :
    P (s.takeWrite p masked addr data) := by
  unfold State.takeWrite
  dsimp only
  split
  · exact I.endTxn s p _ _ h
  · split
    · exact I.deny s p _ _ _ h
    · split
      · exact I.endTxn _ p _ _ (I.writeModeWord s p _ h)
      · exact I.endTxn _ p _ _ (I.writeRegion s p _ _ _ h)

omit I in
/-- A request's own effect is all that a property must survive besides the end of the transaction. -/
theorem request (I : Invariant P) (s : State) (p : Port) (right : Right) (data : List Byte)
    (act : State → State × Status) (hact : ∀ u, P u → P (act u).1) (h : P s) : P (s.request p right data act) := by
  unfold State.request
  split
  · exact I.endTxn _ p _ _ (hact s h)
  · exact I.endTxn s p _ _ h

theorem causeRequest (s : State) (p : Port) (data : List Byte) (f : PortCtl → Cause → PortCtl) (h : P s) :
    P (s.causeRequest p data f) := by
  unfold State.causeRequest
  split
  · exact I.endTxn s p _ _ h
  · split
    · exact I.endTxn _ p _ _ (I.setPort s p _ h)
    · exact I.endTxn s p _ _ h

/-! ### The events of the memory port -/

theorem stagingWriteDone (s : State) (h : P s) : P s.stagingWriteDone := by
  unfold State.stagingWriteDone
  split
  · exact I.settle _ _ (I.finishStagingWrite s _ _ _ h)
  · exact h

theorem scanReadDone (s : State) (h : P s) : P s.scanReadDone := by
  unfold State.scanReadDone
  split
  · exact I.settleMemory _ (I.finishScanRead s _ _ _ h)
  · exact h

theorem captureReadDone (s : State) (h : P s) : P s.captureReadDone := by
  unfold State.captureReadDone
  split
  · exact I.settleMemory _ (I.finishCaptureRead s _ _ _ _ h)
  · exact h

theorem refreshDone (s : State) (h : P s) : P s.refreshDone := by
  unfold State.refreshDone
  split
  · exact I.settleMemory _ (I.finishRefresh s h)
  · exact h

theorem refreshFallsDue (s : State) (h : P s) : P s.refreshFallsDue := by
  unfold State.refreshFallsDue
  split
  · exact I.settleMemory _ (I.oweRefresh s h)
  · exact h

theorem waitReached (s : State) (p : Port) (h : P s) : P (s.waitReached p) := by
  unfold State.waitReached
  split
  · exact I.settleMemory _ (I.endCapture s p _ _ h)
  · exact h

theorem exitReached (s : State) (h : P s) : P s.exitReached := by
  unfold State.exitReached
  split
  · exact I.settleMemory _ (I.memoryAwake s h)
  · exact h

/-! ### The events of pacing and scan-out -/

theorem leadTaken (s : State) (k : Fin 5) (h : P s) : P (s.leadTaken k) := by
  unfold State.leadTaken
  split
  · exact I.settle _ _ (I.leadReached s k h)
  · exact h

theorem tminTaken (s : State) (h : P s) : P s.tminTaken := by
  unfold State.tminTaken
  split
  · rename_i hdue
    have hidle : s.relay.state ≠ .idle := by simp [State.tminDue] at hdue; tauto
    exact I.settle _ _ (I.tminReached s h hidle)
  · exact h

theorem repeatTaken (s : State) (h : P s) : P s.repeatTaken := by
  unfold State.repeatTaken
  split
  · rename_i hdue
    exact I.settle _ _ (I.holdOrOpen s h hdue.1 hdue.2.1)
  · exact h

theorem plannedTaken (s : State) (h : P s) : P s.plannedTaken := by
  unfold State.plannedTaken
  split
  · rename_i hdue
    have hidle : s.relay.state ≠ .idle := by simp [State.plannedDue] at hdue; tauto
    exact I.settle _ _ (I.takePlanned s h hidle)
  · exact h

theorem graceTaken (s : State) (h : P s) : P s.graceTaken := by
  unfold State.graceTaken
  split
  · exact I.settle _ _ (I.endGrace s h)
  · exact h

theorem lineTaken (s : State) (h : P s) : P s.lineTaken := by
  unfold State.lineTaken
  split
  · split
    · exact I.settle _ _ (I.drawNext s h)
    · exact h
  · exact h

theorem closeTaken (s : State) (h : P s) : P s.closeTaken := by
  unfold State.closeTaken
  split
  · rename_i c hc
    split
    · exact I.settle _ _ (I.closeScan s c h hc)
    · exact h
  · exact h

theorem panelRises (s : State) (h : P s) : P s.panelRises := by
  unfold State.panelRises
  dsimp only
  split
  · rename_i hw
    exact I.settle _ _ (I.completeWake _ _ (I.panelReady s h) hw)
  · exact I.panelReady s h

theorem wakeTaken (s : State) (h : P s) : P s.wakeTaken := by
  unfold State.wakeTaken
  split
  · rename_i hw
    refine I.settle _ _ ?_
    unfold State.wakeLate
    split
    · exact I.completeWake s _ h hw.1
    · exact I.completeWake _ _ (I.raise s _ _ h) hw.1
  · exact h

/-! ### Every command, every step -/

omit I in
theorem of_next {u t : State} (hc : (.next u : Host.Outcome State Fault Refusal) = .next t) (h : P u) : P t :=
  Host.Outcome.next.inj hc ▸ h

/-- Every command keeps the property. -/
theorem exec (c : Instr) (s t : State) (h : P s) (hc : Machine.exec c s = .next t) : P t := by
  cases c with
  | groupPeriod e d =>
    simp only [Machine.exec, execGroupPeriod] at hc
    split at hc
    · rename_i u hu
      obtain rfl := Host.Outcome.next.inj hc
      exact I.settle _ _ (I.closeGroup _ d u (I.arrive s e h) hu)
    · cases hc
  | powerOnReset straps => exact of_next hc (I.powerOn straps s h)
  | laneQuiet e l => exact of_next hc (I.settle _ _ (I.goQuiet _ l (I.arrive s e h)))
  | laneActivity e l => exact of_next hc (I.seeActivity _ l (I.arrive s e h))
  | stagingWriteCompletion e => exact of_next hc (I.stagingWriteDone _ (I.arrive s e h))
  | scanReadCompletion e => exact of_next hc (I.scanReadDone _ (I.arrive s e h))
  | captureReadCompletion e => exact of_next hc (I.captureReadDone _ (I.arrive s e h))
  | refreshCompletion e => exact of_next hc (I.refreshDone _ (I.arrive s e h))
  | refreshDue e => exact of_next hc (I.refreshFallsDue _ (I.arrive s e h))
  | waitDeadline e p => exact of_next hc (I.waitReached _ p (I.arrive s e h))
  | selfRefreshEntry e => exact of_next hc (I.settleMemory _ (I.arrive s e h))
  | memoryExitDeadline e => exact of_next hc (I.exitReached _ (I.arrive s e h))
  | leadGate e k => exact of_next hc (I.leadTaken _ k (I.arrive s e h))
  | tminGate e => exact of_next hc (I.tminTaken _ (I.arrive s e h))
  | repeatDeadline e => exact of_next hc (I.repeatTaken _ (I.arrive s e h))
  | plannedRepeat e => exact of_next hc (I.plannedTaken _ (I.arrive s e h))
  | graceExpiry e => exact of_next hc (I.graceTaken _ (I.arrive s e h))
  | scanLine e => exact of_next hc (I.lineTaken _ (I.arrive s e h))
  | scanClose e => exact of_next hc (I.closeTaken _ (I.arrive s e h))
  | panelReadyRise e => exact of_next hc (I.panelRises _ (I.arrive s e h))
  | wakeDeadline e => exact of_next hc (I.wakeTaken _ (I.arrive s e h))
  | read e p addr count => exact of_next hc (I.takeRead _ p addr count (I.openPort s e p h))
  | write e p addr data => exact of_next hc (I.takeWrite _ p false addr data (I.openPort s e p h))
  | maskedWrite e p addr data => exact of_next hc (I.takeWrite _ p true addr data (I.openPort s e p h))
  | relayModeWordWrite e p masked data => exact of_next hc (I.takeWrite _ p masked _ data (I.openPort s e p h))
  | enablesWrite e p masked second data => exact of_next hc (I.takeWrite _ p masked _ data (I.openPort s e p h))
  | identificationRead e p offset count => exact of_next hc (I.takeRead _ p _ count (I.openPort s e p h))
  | captureWindowRead e p offset count => exact of_next hc (I.takeCapture _ p _ count (I.openPort s e p h))
  | selectRelease e p fillers count => exact of_next hc (I.releaseSelect _ p fillers count (I.arrive s e h))
  | applyInput e r => exact of_next hc (I.request _ _ _ _ _ I.requestInput (I.openPort s e _ h))
  | applyPanel e r => exact of_next hc (I.request _ _ _ _ _ I.requestPanel (I.openPort s e _ h))
  | commitOverlay e r => exact of_next hc (I.request _ _ _ _ _ I.requestCommit (I.openPort s e _ h))
  | pin e r => exact of_next hc (I.request _ _ _ _ _ (fun u => I.requestPin u r.port) (I.openPort s e _ h))
  | release e r => exact of_next hc (I.request _ _ _ _ _ (fun u => I.requestRelease u r.port) (I.openPort s e _ h))
  | realign e r => exact of_next hc (I.request _ _ _ _ _ I.requestRealign (I.openPort s e _ h))
  | relayReset e r => exact of_next hc (I.request _ _ _ _ _ I.requestReset (I.openPort s e _ h))
  | nextRecord e r => exact of_next hc (I.request _ _ _ _ _ (fun u => I.requestRecord u r.port) (I.openPort s e _ h))
  | ackCause e p data => exact of_next hc (I.causeRequest _ p data _ (I.openPort s e p h))
  | setCause e p data => exact of_next hc (I.causeRequest _ p data _ (I.openPort s e p h))
  | laneTestOn e r => exact of_next hc (I.request _ _ _ _ _ I.requestTestOn (I.openPort s e _ h))
  | laneTestOff e r => exact of_next hc (I.request _ _ _ _ _ I.requestTestOff (I.openPort s e _ h))
  | badCommandTransaction e p bytes =>
    obtain rfl := Host.Outcome.next.inj hc
    split
    · exact I.endBad _ p _ _ (I.openPort s e p h)
    · split
      · exact I.endBad _ p _ _ (I.openPort s e p h)
      · exact I.arrive s e h

/-- Every step keeps the property. -/
theorem step (s t : State) (h : P s) (hs : Machine.step s = .next t) : P t := by
  match hp : s.pending with
  | [] =>
    rw [step_nil s hp] at hs
    obtain rfl := Host.Outcome.next.inj hs
    exact I.tick s h
  | c :: rest =>
    rw [step_cons c rest s hp] at hs
    exact I.exec c _ t (I.pop s rest h) hs

end Invariant

/-! ## The memories keep their canonical form -/

/-- The canonical form is a matter of the two memories alone. -/
theorem canonical_of_outer {s t : State} (h : t.outer = s.outer) (hs : s.Canonical) : t.Canonical := by
  have ho : t.ovl.memory = s.ovl.memory := congrArg Outer.overlayMemory h
  have hf : t.mpt.frameMemory = s.mpt.frameMemory := congrArg Outer.frameMemory h
  exact ⟨ho ▸ hs.overlay, hf ▸ hs.frame⟩

theorem canonical_finishStagingWrite (s : State) (l : StagedLine) (addr : Nat) (queued : Bool) (h : s.Canonical) :
    (s.finishStagingWrite l addr queued).Canonical :=
  canonical_of_outer (outer_lineWritten _ l) ⟨h.overlay, wf_writePixels _ addr l.pixels h.frame⟩

theorem canonical_setModeWord (s : State) (w : Byte) (h : s.Canonical) : (s.setModeWord w).Canonical := by
  have hw : State.Canonical { s with peu.modeWord := w } := ⟨h.overlay, h.frame⟩
  unfold State.setModeWord
  dsimp only
  split
  · exact canonical_of_outer (by rw [outer_settle, outer_loseLock]) hw
  · exact hw

/-- A write reaches overlay memory in its own region, and frame memory nowhere. -/
theorem canonical_writeRegion (s : State) (p : Port) (r : Region) (off : Nat) (ps : List (Byte × Byte))
    (h : s.Canonical) : (s.writeRegion p r off ps).Canonical := by
  cases r with
  | overlayMemory => exact ⟨wf_writeOverlay _ off ps h.overlay, h.frame⟩
  | eventView | modeWord | pendingInput | pendingPanel | overlayList | view _ | trap _ | pinRegion | recordView
  | captureWindow => exact ⟨h.overlay, h.frame⟩

theorem outer_requestInput (s : State) : s.requestInput.1.outer = s.outer := by
  unfold State.requestInput
  split
  · rfl
  · split
    · rfl
    · dsimp only
      split
      · rw [outer_settle, outer_applyInputNow]; rfl
      · rfl

theorem outer_triggerExit (s : State) (t : HoldTrigger) : (s.triggerExit t).outer = s.outer := by
  unfold State.triggerExit
  split
  · rw [outer_settle, outer_exitHold]
  · rfl

theorem outer_leaveIdle (s : State) : s.leaveIdle.outer = s.outer := by
  unfold State.leaveIdle
  rw [outer_openScan]
  show s.installPanel.reevaluate.outer = s.outer
  rw [outer_reevaluate, outer_installPanel]

theorem outer_requestPanel (s : State) : s.requestPanel.1.outer = s.outer := by
  unfold State.requestPanel
  split
  · rfl
  · split
    · rfl
    · dsimp only
      split
      · rw [outer_settle, outer_leaveIdle]; rfl
      · rw [outer_triggerExit]; rfl

theorem outer_requestCommit (s : State) : s.requestCommit.1.outer = s.outer := by
  unfold State.requestCommit
  rw [outer_triggerExit]
  rfl

theorem outer_requestPin (s : State) (p : Port) : (s.requestPin p).1.outer = s.outer := by
  unfold State.requestPin
  split
  · rfl
  · split
    · rfl
    · split <;> rfl

theorem outer_requestRelease (s : State) (p : Port) : (s.requestRelease p).1.outer = s.outer := by
  unfold State.requestRelease
  split
  · exact outer_dropPin s p
  · rfl

theorem outer_requestRealign (s : State) : s.requestRealign.1.outer = s.outer := by
  unfold State.requestRealign
  rw [outer_settle, outer_enterSearch]

theorem outer_requestTestOn (s : State) : s.requestTestOn.1.outer = s.outer := by
  unfold State.requestTestOn
  rw [outer_settle, outer_reevaluate]
  exact outer_enterSearch _ s

theorem outer_requestTestOff (s : State) : s.requestTestOff.1.outer = s.outer := by
  unfold State.requestTestOff
  dsimp only
  split
  · rw [outer_reevaluate]; rfl
  · rfl

theorem outer_abortScanOut (s : State) : s.abortScanOut.outer = s.outer := by
  unfold State.abortScanOut
  split
  · rfl
  · rfl
  · split
    · rw [outer_endScan, outer_send]
    · rfl
  · rw [outer_wakeMemory]; rfl
  · rfl

theorem outer_resetRelay (s : State) : s.resetRelay.outer = s.outer := by
  unfold State.resetRelay
  rw [outer_reevaluate]
  rfl

theorem outer_resetStore (s : State) : s.resetStore.outer = s.outer := by
  unfold State.resetStore
  rw [outer_dropCaptures]
  rfl

theorem outer_resetLra (s : State) : s.resetLra.outer = s.outer := rfl
theorem outer_resetPacing (s : State) : s.resetPacing.outer = s.outer := rfl
theorem outer_resetRecords (s : State) : s.resetRecords.outer = s.outer := rfl

theorem outer_requestReset (s : State) : s.requestReset.1.outer = s.outer := by
  have h1 : s.abortScanOut.resetStore.resetLra.resetPacing.resetRecords.resetRelay.outer = s.outer := by
    rw [outer_resetRelay, outer_resetRecords, outer_resetPacing, outer_resetLra, outer_resetStore, outer_abortScanOut]
  unfold State.requestReset
  rw [outer_settle]
  unfold State.deadlineAtReady
  split
  · rw [outer_holdOrOpen, h1]
  · exact h1

theorem outer_takePlanned (s : State) : s.takePlanned.outer = s.outer := by
  unfold State.takePlanned
  split
  · exact outer_enterHold s
  · split
    · exact outer_openScan s
    · rfl

theorem outer_openWaiting (s : State) : s.openWaiting.outer = s.outer := by
  unfold State.openWaiting
  split
  · dsimp only
    split
    · rw [outer_holdOrOpen]; rfl
    · rfl
  · rfl

/-- Only a staging write and a WRITE to overlay memory reach the memories; the rest leaves the outer side. -/
theorem canonical_invariant : Invariant State.Canonical where
  tick _ h := ⟨h.overlay, h.frame⟩
  pop _ _ h := ⟨h.overlay, h.frame⟩
  arrive s e := canonical_of_outer (arrive_outer s e)
  powerOn _ _ _ := ⟨reset_canonical.overlay, reset_canonical.frame⟩
  setPort _ _ _ h := ⟨h.overlay, h.frame⟩
  raise s c d := canonical_of_outer (outer_raise s c d)
  settle s before := canonical_of_outer (outer_settle s before)
  settleMemory s := canonical_of_outer (outer_settleMemory s)
  closeGroup s d t h ht := canonical_of_outer (outer_closeGroup s d t ht) h
  goQuiet s l := canonical_of_outer (outer_goQuiet s l)
  seeActivity s l := canonical_of_outer (outer_seeActivity s l)
  finishStagingWrite := canonical_finishStagingWrite
  finishScanRead s r a live := canonical_of_outer (outer_finishScanRead s r a live)
  finishCaptureRead s p r a w := canonical_of_outer (outer_finishCaptureRead s p r a w)
  finishRefresh s := canonical_of_outer (outer_finishRefresh s)
  oweRefresh _ h := ⟨h.overlay, h.frame⟩
  endCapture s p st data := canonical_of_outer (outer_endCapture s p st data)
  withdrawCapture _ _ h := ⟨h.overlay, h.frame⟩
  setCapture _ _ h := ⟨h.overlay, h.frame⟩
  wakeMemory s := canonical_of_outer (outer_wakeMemory s)
  memoryAwake s := canonical_of_outer (outer_memoryAwake s)
  leadReached s k := canonical_of_outer (outer_modSlot s k _)
  tminReached _ h _ := canonical_of_outer (outer_openWaiting _) ⟨h.overlay, h.frame⟩
  holdOrOpen s h _ _ := canonical_of_outer (outer_holdOrOpen s) h
  takePlanned _ h _ := canonical_of_outer (outer_takePlanned _) ⟨h.overlay, h.frame⟩
  endGrace _ h := ⟨h.overlay, h.frame⟩
  drawNext s := canonical_of_outer (outer_drawNext s)
  closeScan s c h _ := canonical_of_outer (outer_closeScan s c) h
  panelReady _ h := ⟨h.overlay, h.frame⟩
  completeWake s ending h _ := canonical_of_outer (outer_completeWake s ending) h
  writeModeWord s _ _ := canonical_setModeWord s _
  writeRegion := canonical_writeRegion
  requestInput s := canonical_of_outer (outer_requestInput s)
  requestPanel s := canonical_of_outer (outer_requestPanel s)
  requestCommit s := canonical_of_outer (outer_requestCommit s)
  requestPin s p := canonical_of_outer (outer_requestPin s p)
  requestRelease s p := canonical_of_outer (outer_requestRelease s p)
  requestRealign s := canonical_of_outer (outer_requestRealign s)
  requestReset s := canonical_of_outer (outer_requestReset s)
  requestRecord _ _ h := ⟨h.overlay, h.frame⟩
  requestTestOn s := canonical_of_outer (outer_requestTestOn s)
  requestTestOff s := canonical_of_outer (outer_requestTestOff s)

/-- Settles O56: each operation of each command leaves the memories or writes one of them by `writeBytes`. -/
theorem memoriesStayCanonical : Obligations.MemoriesStayCanonical := canonical_invariant.step

end Sys2Proof.Machine
end

section
/-! What power-on reset leaves: the values of the manual, and the invariants of the model. -/
namespace Sys2Proof.Machine

/-- No cause is pending in a port's set right after power-on reset. -/
theorem reset_flags (c : Cause) : PortCtl.reset.flags c = { pending := false, repeated := false, detail := 0 } := by
  cases c <;> rfl

theorem powerOn_lane (k : Fin 4) (l : Lane) : (State.powerOn k).lane l = LaneRec.reset := by cases l <;> rfl
theorem powerOn_slot (k : Fin 4) (j : Fin 5) : (State.powerOn k).slot j = Slot.reset :=
  Vector.getElem_replicate j.isLt
theorem powerOn_pins (k : Fin 4) (p : Port) : (State.powerOn k).store.pins.get p = none := by cases p <;> rfl
theorem powerOn_reader (k : Fin 4) (p : Port) : (State.powerOn k).records.readers.get p = Reader.reset := by
  cases p <;> rfl

/-- The pending panel copy after power-on reset reads 0 in each of its 44 bytes. -/
theorem zero_panelBytes : PanelContract.zero.bytes = List.replicate 44 0 := by decide

theorem reset_inputBytes : InputContract.reset.bytes = [0x10, 0x20, 0x20, 0x07] := by decide

/-- A plane record after power-on reset reads 0 in each of its 64 bytes. -/
theorem reset_planes (i : Fin 8) : (Vector.replicate 8 Plane.reset)[i].bytes = List.replicate 64 0 := by
  rw [show (Vector.replicate 8 Plane.reset)[i] = Plane.reset from Vector.getElem_replicate i.isLt]
  rfl

/-- Settles O3: every value is that of `State.powerOn`, whatever the state before. -/
theorem powerOnResetValues : Obligations.PowerOnResetValues := by
  intro k s
  refine ⟨_, rfl, rfl, rfl, rfl, rfl, rfl, rfl, rfl, rfl, rfl, rfl, rfl, rfl, rfl, rfl, rfl, rfl, rfl, rfl, rfl, rfl, rfl,
    rfl, rfl, rfl, reset_inputBytes, zero_panelBytes, fun i => ⟨reset_planes i, reset_planes i⟩, rfl, rfl, rfl, rfl, rfl, rfl, rfl, rfl, rfl, rfl,
    rfl, rfl, fun p => ?_, fun j => congrArg Slot.state (powerOn_slot k j), fun l => ?_, fun _ => ⟨rfl, rfl⟩, fun p => ?_⟩
  · cases p <;> exact ⟨rfl, rfl, rfl⟩
  · cases l <;> exact ⟨rfl, rfl, rfl⟩
  · cases p <;> exact ⟨rfl, rfl, rfl, rfl, rfl, rfl, rfl, reset_flags⟩

theorem powerOn_pinsAgree (k : Fin 4) : (State.powerOn k).PinsAgree where
  holders p j := by
    rw [powerOn_slot, powerOn_pins]
    cases p <;> simp [Slot.reset, PerPort.get]
  live p x h := by rw [powerOn_pins] at h; cases h
  counts p x h := by rw [powerOn_pins] at h; cases h
  limit := Nat.le_refl 0

theorem powerOn_scanAgrees (k : Fin 4) : (State.powerOn k).ScanAgrees where
  scan := by simp [State.powerOn, ScanOut.reset]
  idle := by simp [State.powerOn, Relay.reset]
  quiet := by simp [State.powerOn, ScanOut.reset, Relay.reset]

theorem powerOn_ringBounded (k : Fin 4) : (State.powerOn k).RingBounded where
  ring := Nat.zero_le 32
  unread p := by rw [powerOn_reader]; exact Nat.le_refl 0
  lost p := by rw [powerOn_reader]; exact Nat.zero_le 255
  tally := Nat.zero_le _

theorem powerOn_countsLimited (k : Fin 4) : (State.powerOn k).CountsLimited where
  misses l := by rw [powerOn_lane]; exact Nat.zero_le _
  skews l := by rw [powerOn_lane]; exact Nat.zero_le _

theorem powerOn_queuesBounded (k : Fin 4) : (State.powerOn k).QueuesBounded where
  staging := Nat.zero_le _
  owed := Nat.zero_le _
  intervals := Nat.zero_le _
  penalty := Nat.zero_le _
  clean := Nat.zero_le _

/-- Settles O4. -/
theorem invariantsHoldAtReset : Obligations.InvariantsHoldAtReset :=
  ⟨reset_canonical, ⟨rfl, by decide⟩, powerOn_pinsAgree 0, powerOn_scanAgrees 0, powerOn_ringBounded 0,
    powerOn_countsLimited 0, powerOn_queuesBounded 0⟩

end Sys2Proof.Machine
end

section
/-! What the operations of the blocks leave of a state: `Even` for everything that only a scan open, a hold or a panel
apply changes, and `Steady` for the pins and the geometry of the frame store besides. One lemma for each operation; the
statements about commands and the invariants cite these in place of unfolding the operations. -/
namespace Sys2Proof.Machine

/-! ## Causes -/

theorem allCauses_index (c : Cause) : allCauses[c.index.val]? = some c := by cases c <;> rfl

theorem Cause.index_injective {c d : Cause} (h : c.index = d.index) : c = d :=
  Option.some.inj (by rw [← allCauses_index c, h, allCauses_index])

@[simp] theorem flags_enter_same (x : PortCtl) (c : Cause) (d : BitVec 16) :
    (x.enter c d).flags c = (x.flags c).enter d := by
  simp [PortCtl.flags, PortCtl.enter]

@[simp] theorem flags_enter_other (x : PortCtl) (c b : Cause) (d : BitVec 16) (h : b ≠ c) :
    (x.enter c d).flags b = x.flags b := by
  have hi : ¬ c.index.val = b.index.val := fun hv => h (Cause.index_injective (Fin.ext hv.symm))
  simp [PortCtl.flags, PortCtl.enter, hi]

@[simp] theorem pending_enter (f : CauseFlags) (d : BitVec 16) : (f.enter d).pending = true := by
  unfold CauseFlags.enter
  split <;> simp_all

/-- A raising leaves no cause pending that is not, and takes none away. -/
theorem pending_raise {s : State} {p : Port} {b : Cause} (c : Cause) (d : BitVec 16)
    (h : ((s.port p).flags b).pending = true) : (((s.raise c d).port p).flags b).pending = true := by
  rw [port_raise]
  by_cases hb : b = c
  · rw [hb, flags_enter_same, pending_enter]
  · rwa [flags_enter_other _ _ _ _ hb]

/-! ## The two relations -/

/-- What the operations of the blocks leave but for the opening of a scan, a hold, a wake, and the effect of a panel
apply. -/
structure Still where
  relayTime : Stamp
  panelReady : Bool
  link : List Marker
  idlePassed : Bool
  panel : Option PanelContract
  waitingPanel : Option PanelContract
  lastOpen : Option LastOpen
  tminReached : Bool
  scanOut : ScanOutState
  lastScan : Option LastScan
  lastHoldEntry : Option Stamp
  lastHoldExit : Option (Stamp × HoldTrigger)
  wakeDeadline : Option Deadline
  lastWakeEnding : Option WakeEnding
  ovl : Overlay

def State.still (s : State) : Still :=
  { relayTime := s.relayTime, panelReady := s.panelReady, link := s.link, idlePassed := s.idlePassed,
    panel := s.relay.panel, waitingPanel := s.relay.waitingPanel, lastOpen := s.pacing.lastOpen,
    tminReached := s.pacing.tminReached, scanOut := s.sco.state, lastScan := s.sco.lastScan,
    lastHoldEntry := s.sco.lastHoldEntry, lastHoldExit := s.sco.lastHoldExit, wakeDeadline := s.sco.wakeDeadline,
    lastWakeEnding := s.sco.lastWakeEnding, ovl := s.ovl }

/-- From s to t only things happen that open no scan and install no panel contract: a scan stays or stays away, the relay
state is as it was or as the panel contract has it, no repeat begins to wait, and no cause goes. -/
structure Even (s t : State) : Prop where
  still : t.still = s.still
  scan : t.sco.scan.isSome = s.sco.scan.isSome
  relay : t.relay.state = s.relay.state ∨ (t.relay.state = .idle ↔ t.relay.panel = none)
  waiting : s.pacing.waitingRepeat = false → t.pacing.waitingRepeat = false
  pending : ∀ p c, ((s.port p).flags c).pending = true → ((t.port p).flags c).pending = true

/-- The pin records with the geometry of the slots. -/
def State.layout (s : State) : Nat × Nat × Nat × PerPort (Option Pin) :=
  (s.store.lineBytes, s.store.slotBytes, s.store.usable, s.store.pins)

/-- From s to t, besides, the pin records and the geometry stay, with the holders of every slot; a slot that a pin holds
keeps its frame; PIN_EXPIRED is not raised. -/
structure Steady (s t : State) : Prop extends Even s t where
  layout : t.layout = s.layout
  holders : ∀ k, (t.slot k).pinHolders = (s.slot k).pinHolders
  live : ∀ k p, (s.slot k).pinHolders.get p = true → (s.slot k).state ≠ .free →
    (t.slot k).state ≠ .free ∧ (t.slot k).arrival = (s.slot k).arrival
  expired : ∀ p, (t.port p).flags .pinExpired = (s.port p).flags .pinExpired

namespace Even

variable {s t : State} (h : Even s t)
include h

theorem relayTime : t.relayTime = s.relayTime := congrArg Still.relayTime h.still
theorem panelReady : t.panelReady = s.panelReady := congrArg Still.panelReady h.still
theorem link : t.link = s.link := congrArg Still.link h.still
theorem idlePassed : t.idlePassed = s.idlePassed := congrArg Still.idlePassed h.still
theorem panel : t.relay.panel = s.relay.panel := congrArg Still.panel h.still
theorem waitingPanel : t.relay.waitingPanel = s.relay.waitingPanel := congrArg Still.waitingPanel h.still
theorem lastOpen : t.pacing.lastOpen = s.pacing.lastOpen := congrArg Still.lastOpen h.still
theorem tminReached : t.pacing.tminReached = s.pacing.tminReached := congrArg Still.tminReached h.still
theorem scanOut : t.sco.state = s.sco.state := congrArg Still.scanOut h.still
theorem ovl : t.ovl = s.ovl := congrArg Still.ovl h.still
theorem contract : t.contract = s.contract := by rw [State.contract, h.panel]; rfl

end Even

theorem Even.refl (s : State) : Even s s where
  still := rfl
  scan := rfl
  relay := .inl rfl
  waiting := id
  pending _ _ := id

theorem Even.trans {s t u : State} (h : Even s t) (k : Even t u) : Even s u where
  still := k.still.trans h.still
  scan := k.scan.trans h.scan
  relay := by
    rcases k.relay with e | g
    · rw [e, k.panel]; exact h.relay
    · exact .inr g
  waiting := k.waiting ∘ h.waiting
  pending p c := k.pending p c ∘ h.pending p c

theorem Steady.refl (s : State) : Steady s s where
  toEven := Even.refl s
  layout := rfl
  holders _ := rfl
  live _ _ _ hs := ⟨hs, rfl⟩
  expired _ := rfl

theorem Steady.trans {s t u : State} (h : Steady s t) (k : Steady t u) : Steady s u where
  toEven := h.toEven.trans k.toEven
  layout := k.layout.trans h.layout
  holders j := (k.holders j).trans (h.holders j)
  live j p hp hs := by
    obtain ⟨ht, ha⟩ := h.live j p hp hs
    obtain ⟨hu, hb⟩ := k.live j p (by rw [h.holders]; exact hp) ht
    exact ⟨hu, hb.trans ha⟩
  expired p := (k.expired p).trans (h.expired p)

/-- The same with the later operation first: its state is read off the goal. -/
theorem Steady.after {s t u : State} (k : Steady t u) (h : Steady s t) : Steady s u := h.trans k

theorem Steady.usable {s t : State} (h : Steady s t) : t.store.usable = s.store.usable :=
  congrArg (fun l => l.2.2.1) h.layout

theorem Steady.pins {s t : State} (h : Steady s t) : t.store.pins = s.store.pins := congrArg (fun l => l.2.2.2) h.layout

/-- What a plain update of other fields leaves as it is. -/
def State.kept (s : State) : Still × Store × Peu × RelayState × Option Scan × Bool :=
  (s.still, s.store, s.peu, s.relay.state, s.sco.scan, s.pacing.waitingRepeat)

/-- An update that leaves all of that is steady. -/
theorem Steady.of_kept {s t : State} (h : t.kept = s.kept) : Steady s t := by
  obtain ⟨hstill, h⟩ := Prod.ext_iff.mp h
  obtain ⟨hstore, h⟩ := Prod.ext_iff.mp h
  obtain ⟨hpeu, h⟩ := Prod.ext_iff.mp h
  obtain ⟨hrelay, h⟩ := Prod.ext_iff.mp h
  obtain ⟨hscan, hwait⟩ := Prod.ext_iff.mp h
  dsimp only [State.kept] at hstill hstore hpeu hrelay hscan hwait
  have hslot : ∀ k, t.slot k = s.slot k := fun k => by rw [State.slot, hstore]; rfl
  have hport : ∀ p, t.port p = s.port p := fun p => by rw [State.port, hpeu]; rfl
  exact
    { still := hstill
      scan := by rw [hscan]
      relay := .inl hrelay
      waiting := fun hw => by rw [hwait]; exact hw
      pending := fun p c hp => by rw [hport]; exact hp
      layout := by rw [State.layout, hstore]; rfl
      holders := fun k => by rw [hslot]
      live := fun k _ _ hs => by rw [hslot]; exact ⟨hs, rfl⟩
      expired := fun p => by rw [hport] }

/-! ## Lists of operations -/

theorem Steady.foldl {α : Type} (f : State → α → State) (h : ∀ s x, Steady s (f s x)) (xs : List α) (s : State) :
    Steady s (xs.foldl f s) := by
  induction xs generalizing s with
  | nil => exact Steady.refl s
  | cons x xs ih => exact (h s x).trans (ih (f s x))

theorem Steady.eachFree {α : Type} (xs : List α) (f : State → α → State) (h : ∀ s x, Steady s (f s x)) (s : State) :
    Steady s (s.eachFree xs f) :=
  (Steady.foldl f h _ _).after (.of_kept rfl)

/-! ## The shared updates -/

theorem steady_modSlot (s : State) (k : Fin 5) (f : Slot → Slot) (hp : ∀ r, (f r).pinHolders = r.pinHolders)
    (ha : ∀ r, (f r).arrival = r.arrival) (hs : ∀ r, r.state ≠ .free → (f r).state ≠ .free) : Steady s (s.modSlot k f) where
  toEven := { Even.refl s with }
  layout := rfl
  holders j := by
    by_cases hj : j = k
    · rw [hj, slot_modSlot_same, hp]
    · rw [slot_modSlot_other _ _ _ _ hj]
  live j _ _ hj := by
    by_cases hk : j = k
    · subst hk
      rw [slot_modSlot_same]
      exact ⟨hs _ hj, ha _⟩
    · rw [slot_modSlot_other _ _ _ _ hk]
      exact ⟨hj, rfl⟩
  expired _ := rfl

/-- An update that leaves a slot's holders, its stamp and its state is steady. -/
theorem steady_modSlot_of_frame (s : State) (k : Fin 5) (f : Slot → Slot)
    (h : ∀ r, (f r).pinHolders = r.pinHolders ∧ (f r).arrival = r.arrival ∧ (f r).state = r.state) :
    Steady s (s.modSlot k f) :=
  steady_modSlot s k f (fun r => (h r).1) (fun r => (h r).2.1) fun r hr => by rw [(h r).2.2]; exact hr

theorem steady_raise (s : State) (c : Cause) (d : BitVec 16) (hc : .pinExpired ≠ c) : Steady s (s.raise c d) where
  toEven := { Even.refl s with pending := fun _ _ => pending_raise c d }
  layout := rfl
  holders _ := rfl
  live _ _ _ hs := ⟨hs, rfl⟩
  expired p := by rw [port_raise, flags_enter_other _ _ _ _ hc]

/-- A port's record may change in all but its causes. -/
theorem steady_setPort (s : State) (p : Port) (x : PortCtl) (h : x.causes = (s.port p).causes) :
    Steady s (s.setPort p x) := by
  have hf : ∀ q c, ((s.setPort p x).port q).flags c = (s.port q).flags c := fun q c => by
    by_cases hq : q = p
    · rw [hq, port_setPort_same, PortCtl.flags, h]; rfl
    · rw [port_setPort_other _ _ _ _ hq]
  exact
    { Steady.refl s with
      pending := fun q c hp => by rw [hf]; exact hp
      expired := fun q => hf q _ }

theorem steady_stat (s : State) (f : Stats → Stats) : Steady s (s.stat f) := .of_kept rfl
theorem steady_modLane (s : State) (l : Lane) (f : LaneRec → LaneRec) : Steady s (s.modLane l f) := .of_kept rfl
theorem steady_mapLanes (s : State) (f : LaneRec → LaneRec) : Steady s (s.mapLanes f) := .of_kept rfl

theorem steady_modScan (s : State) (f : Scan → Scan) : Steady s (s.modScan f) :=
  { Steady.refl s with scan := by rw [State.modScan]; exact Option.isSome_map }

theorem steady_clearPlanned (s : State) : Steady s s.clearPlanned := { Steady.refl s with waiting := fun _ => rfl }

/-! ## Records (chapter 10) -/

theorem steady_raiseRecordsWaiting (s : State) (p : Port) : Steady s (s.raiseRecordsWaiting p) :=
  steady_raise s _ _ (by decide)

theorem steady_appendRecord (s : State) (k : Fin 5) (superseded : Bool) (scan : Option NewScanPart) :
    Steady s (s.appendRecord k superseded scan) := by
  dsimp only [State.appendRecord]
  refine (Steady.eachFree _ _ steady_raiseRecordsWaiting _).after ?_
  exact .after (steady_modSlot_of_frame _ k _ fun _ => ⟨rfl, rfl, rfl⟩) (.of_kept rfl)

theorem steady_recordIfUnrecorded (s : State) (k : Fin 5) : Steady s (s.recordIfUnrecorded k) := by
  unfold State.recordIfUnrecorded
  split
  · exact .refl s
  · exact steady_appendRecord s k _ _

/-! ## Frame store (chapter 3) -/

theorem steady_reevalRepeatFull (s : State) : Steady s s.reevalRepeatFull := .of_kept rfl

theorem steady_reevalRepeatDuring (s : State) (scanned : Option (Fin 5)) : Steady s (s.reevalRepeatDuring scanned) := by
  unfold State.reevalRepeatDuring
  split
  · exact steady_reevalRepeatFull s
  · exact .refl s

theorem steady_reevalRepeat (s : State) : Steady s s.reevalRepeat := by
  unfold State.reevalRepeat
  split
  · exact steady_reevalRepeatDuring s _
  · exact steady_reevalRepeatFull s

theorem steady_completeSlot (s : State) (k : Fin 5) : Steady s (s.completeSlot k) := by
  unfold State.completeSlot
  dsimp only
  refine (steady_reevalRepeat _).after ?_
  have h : Steady s (s.modSlot k fun r =>
      { r with state := .complete, completion := some s.relayTime, delivery := some (min (s.age k) 1000000) }) :=
    steady_modSlot s k _ (fun _ => rfl) (fun _ => rfl) fun _ _ => SlotState.noConfusion
  split
  · exact h
  · exact h.trans (.of_kept rfl)

theorem steady_completeIfResolved (s : State) (k : Fin 5) : Steady s (s.completeIfResolved k) := by
  unfold State.completeIfResolved
  split
  · exact steady_completeSlot s k
  · exact .refl s

theorem unmarkReady_frame (r : Slot) (j : Nat) : (r.unmarkReady j).pinHolders = r.pinHolders ∧
    (r.unmarkReady j).arrival = r.arrival ∧ (r.unmarkReady j).state = r.state := by
  unfold Slot.unmarkReady
  split <;> exact ⟨rfl, rfl, rfl⟩

theorem damage_frame (r : Slot) (j : Nat) : (r.damage j).pinHolders = r.pinHolders ∧
    (r.damage j).arrival = r.arrival ∧ (r.damage j).state = r.state := unmarkReady_frame r j

theorem countWritten_frame (r : Slot) (j : Nat) : (r.countWritten j).pinHolders = r.pinHolders ∧
    (r.countWritten j).arrival = r.arrival ∧ (r.countWritten j).state = r.state := by
  unfold Slot.countWritten
  dsimp only
  split <;> simp only [Slot.markReady, Slot.setEntry, and_self]

theorem steady_checkEntry (s : State) (k : Fin 5) (j : Nat) : Steady s (s.checkEntry k j) := by
  unfold State.checkEntry
  split
  · exact .refl s
  · exact (steady_stat _ _).after (steady_modSlot_of_frame s k _ fun _ => ⟨rfl, rfl, rfl⟩)
  · refine (steady_completeIfResolved _ k).after ((steady_raise _ _ _ (by decide)).after ?_)
    exact steady_modSlot_of_frame s k _ fun r => unmarkReady_frame r j

theorem steady_lineCompleted (s : State) (k : Fin 5) (y : Nat) (concealed joins : Bool) :
    Steady s (s.lineCompleted k y concealed joins) := by
  unfold State.lineCompleted
  extract_lets s1 j s2
  have h : Steady s s2 :=
    (steady_checkEntry s1 k j).after (steady_modSlot_of_frame s k _ fun _ => ⟨rfl, rfl, rfl⟩)
  split
  · exact h.trans (steady_modSlot_of_frame s2 k _ fun _ => ⟨rfl, rfl, rfl⟩)
  · exact h

theorem steady_lineDiscarded (s : State) (k : Fin 5) (y : Nat) : Steady s (s.lineDiscarded k y) :=
  (steady_modSlot_of_frame _ k _ fun r => damage_frame r _).after (steady_checkEntry s k _)

theorem steady_lineWritten (s : State) (l : StagedLine) : Steady s (s.lineWritten l) := by
  unfold State.lineWritten
  split
  · refine (steady_completeIfResolved _ _).after ?_
    exact (steady_modSlot_of_frame _ _ _ fun r => countWritten_frame r _).after (steady_checkEntry s _ _)
  · exact .refl s

theorem steady_frameEnded (s : State) (k : Fin 5) : Steady s (s.frameEnded k) :=
  (steady_completeIfResolved _ k).after
    (steady_modSlot s k _ (fun _ => rfl) (fun _ => rfl) fun _ _ => SlotState.noConfusion)

theorem steady_cutSlice (k : Fin 5) (s : State) (j : Nat) : Steady s (s.cutSlice k j) :=
  (steady_modSlot_of_frame _ k _ fun r => damage_frame r j).after (steady_checkEntry s k j)

theorem steady_cutSlot (s : State) (k : Fin 5) (linesDone : Nat) : Steady s (s.cutSlot k linesDone) :=
  (Steady.foldl _ (steady_cutSlice k) _ _).after
    (steady_modSlot s k _ (fun _ => rfl) (fun _ => rfl) fun _ _ => SlotState.noConfusion)

/-- No port's pin holds the slot. -/
def Slot.unpinned (r : Slot) : Prop := ∀ p, r.pinHolders.get p = false

theorem unpinned_iff (r : Slot) : r.unpinned ↔ (r.pinHolders.system || r.pinHolders.link) = false := by
  rw [Bool.or_eq_false_iff]
  exact ⟨fun h => ⟨h .system, h .link⟩, fun h p => by cases p; exacts [h.1, h.2]⟩

/-- Freeing a slot that no pin holds. -/
theorem steady_freeSlot (s : State) (k : Fin 5) (h : (s.slot k).unpinned) : Steady s (s.freeSlot k) := by
  unfold State.freeSlot
  dsimp only
  refine (steady_reevalRepeat _).after ?_
  have hk : Steady s (s.modSlot k fun _ => Slot.reset) :=
    { Even.refl s with
      layout := rfl
      holders := fun j => by
        by_cases hj : j = k
        · have hs := h .system
          have hl := h .link
          subst hj
          rw [slot_modSlot_same]
          exact (congrArg₂ PerPort.mk hs hl).symm
        · rw [slot_modSlot_other _ _ _ _ hj]
      live := fun j p hp hs => by
        have hj : j ≠ k := fun e => by rw [e, h p] at hp; cases hp
        rw [slot_modSlot_other _ _ _ _ hj]
        exact ⟨hs, rfl⟩
      expired := fun _ => rfl }
  split
  · exact hk.trans (.of_kept rfl)
  · exact hk

theorem Steady.unpinned {s t : State} (h : Steady s t) {k : Fin 5} (hk : (s.slot k).unpinned) : (t.slot k).unpinned :=
  fun p => by rw [h.holders]; exact hk p

theorem steady_foldl_freeSlot (ks : List (Fin 5)) (s : State) (h : ∀ k ∈ ks, (s.slot k).unpinned) :
    Steady s (ks.foldl State.freeSlot s) := by
  induction ks generalizing s with
  | nil => exact .refl s
  | cons k ks ih =>
    have hk := steady_freeSlot s k (h k (by simp))
    exact hk.trans (ih _ fun j hj => hk.unpinned (h j (by simp [hj])))

theorem steady_supersede (s : State) (k : Fin 5) : Steady s (s.supersede k) :=
  (steady_stat _ _).after
    (.after (steady_modSlot_of_frame _ k _ fun _ => ⟨rfl, rfl, rfl⟩) (steady_appendRecord s k true none))

/-! ## Relay controller (chapter 1) -/

theorem steady_beginGrace (s : State) : Steady s s.beginGrace := by
  unfold State.beginGrace
  split
  · dsimp only
    split
    · exact .of_kept rfl
    · exact .refl s
  · exact .refl s

theorem steady_relayChanged (s : State) (old new : RelayState) : Steady s (s.relayChanged old new) := by
  unfold State.relayChanged
  extract_lets p s1 s2 s3 r
  have h1 : Steady s s1 := by
    simp only [s1]
    split
    · exact .of_kept rfl
    · exact .refl s
  have h2 : Steady s s2 := by
    simp only [s2]
    split
    · exact h1.trans (steady_beginGrace s1)
    · exact h1
  have h3 : Steady s s3 := by
    simp only [s3]
    split
    · exact h2.trans (steady_clearPlanned s2)
    · exact h2
  split
  · exact h3.trans (.of_kept rfl)
  · exact h3

/-- The relay is IDLE exactly without a panel contract, once the relay state is what R1 gives. -/
theorem properRelayState_idle (s : State) : s.properRelayState = .idle ↔ s.relay.panel = none := by
  unfold State.properRelayState
  split
  · simp [*]
  · split <;> simp [*]

theorem relay_state_relayChanged (s : State) (old new : RelayState) :
    (s.relayChanged old new).relay.state = s.relay.state ∧ (s.relayChanged old new).relay.reason = s.relay.reason := by
  have hg : ∀ u : State, u.beginGrace.relay.state = u.relay.state ∧ u.beginGrace.relay.reason = u.relay.reason := by
    intro u
    unfold State.beginGrace
    dsimp only
    repeat' split
    all_goals exact ⟨rfl, rfl⟩
  unfold State.relayChanged
  dsimp only
  repeat' split
  all_goals simp [State.clearPlanned, hg]

/-- Re-evaluation leaves the relay in the state R1 gives, for the reason R2 gives. -/
theorem relay_state_reevaluate (s : State) :
    s.reevaluate.relay.state = s.properRelayState ∧ s.reevaluate.relay.reason = s.properReason := by
  unfold State.reevaluate
  dsimp only
  split
  · exact ⟨rfl, rfl⟩
  · exact relay_state_relayChanged _ _ _

theorem steady_reevaluate (s : State) : Steady s s.reevaluate := by
  have hset : Steady s { s with relay.state := s.properRelayState, relay.reason := s.properReason } :=
    { Steady.refl s with relay := .inr (properRelayState_idle s) }
  unfold State.reevaluate
  dsimp only
  split
  · exact hset
  · exact (steady_raise _ _ _ (by decide)).after ((steady_relayChanged _ _ _).after hset)

theorem steady_takeMode (s : State) (m : FrameMode) : Steady s (s.takeMode m) := by
  have h : Steady s { s with relay.lastMode := some m } := .of_kept rfl
  unfold State.takeMode
  dsimp only
  split
  · exact (steady_raise _ _ _ (by decide)).after h
  · exact h

theorem steady_wakeMemory (s : State) : Steady s s.wakeMemory := by
  unfold State.wakeMemory
  split
  · exact .of_kept rfl
  · exact .refl s

/-! ## Aligner (chapter 2) -/

theorem steady_raiseLaneFault (reason : Nat) (s : State) (l : Lane) : Steady s (s.raiseLaneFault reason l) :=
  steady_raise s _ _ (by decide)

theorem steady_laneFaulted (s : State) (l : Lane) : Steady s (s.laneFaulted l) :=
  (steady_raiseLaneFault 1 _ l).after (.of_kept rfl)

theorem steady_installInput (s : State) : Steady s s.installInput.1 := by
  unfold State.installInput
  split
  · exact .refl s
  · exact (Steady.eachFree _ _ steady_laneFaulted _).after ((steady_raise _ _ _ (by decide)).after (.of_kept rfl))

theorem steady_cutReceived (s : State) : Steady s s.cutReceived := by
  unfold State.cutReceived
  split
  · exact (steady_cutSlot s _ _).trans (.of_kept rfl)
  · exact .of_kept rfl

theorem steady_enterSearch (onLane : LaneRec → LaneRec) (s : State) : Steady s (s.enterSearch onLane) := by
  unfold State.enterSearch
  extract_lets w s1 l q s2 s3
  have h2 : Steady s s2 := (steady_cutReceived s).trans (.of_kept rfl)
  refine (steady_reevaluate s3).after ?_
  simp only [s3]
  split
  · exact h2.trans (steady_installInput s2)
  · exact h2

theorem steady_loseLock (s : State) : Steady s s.loseLock :=
  (steady_raise _ _ _ (by decide)).after (steady_enterSearch _ s)

theorem steady_laneLost (s : State) (l : Lane) : Steady s (s.laneLost l) := by
  unfold State.laneLost
  split
  · split
    · exact .of_kept rfl
    · exact steady_loseLock s
  · exact steady_loseLock s
  · exact .refl s

theorem steady_applyInputNow (s : State) : Steady s s.applyInputNow :=
  (Steady.foldl _ steady_laneLost _ _).after (steady_installInput s)

theorem steady_cutAtBoundary (s : State) : Steady s s.cutAtBoundary := by
  unfold State.cutAtBoundary
  split
  · exact (steady_applyInputNow _).after (steady_cutReceived s)
  · exact .refl s

theorem slot_markPredating (s : State) (k : Fin 5) : s.markPredating.slot k =
    if (s.slot k).state = .free then s.slot k else { s.slot k with predatesReference := true } := by
  simp only [State.markPredating, State.slot, Fin.getElem_fin, Vector.getElem_map]
  rfl

theorem steady_markPredating (s : State) : Steady s s.markPredating :=
  { Even.refl s with
    layout := rfl
    holders := fun k => by rw [slot_markPredating]; split <;> rfl
    live := fun k _ _ hs => by rw [slot_markPredating, if_neg hs]; exact ⟨hs, rfl⟩
    expired := fun _ => rfl }

theorem steady_pacingLock (s : State) : Steady s s.pacingLock := (steady_markPredating s).trans (.of_kept rfl)

theorem steady_lockThird (s : State) (l : Lane) : Steady s (s.lockThird l) := by
  unfold State.lockThird
  split
  · exact .refl s
  · split
    · exact steady_laneFaulted s l
    · exact .refl s
    · exact .refl s

theorem steady_lock (onto : AlignerState) (s : State) : Steady s (s.lock onto) := by
  unfold State.lock
  extract_lets s1 s2
  have h1 : Steady s s1 := by
    simp only [s1]
    split
    · exact Steady.foldl _ steady_lockThird _ _
    · exact .refl s
  have h2 : Steady s s2 := (steady_pacingLock _).after ((steady_mapLanes _ _).after h1)
  exact (steady_reevaluate _).after (h2.trans (.of_kept rfl))

theorem steady_restartSearch (s : State) : Steady s s.restartSearch := .of_kept rfl

theorem steady_searchRunEnd (s : State) : Steady s s.searchRunEnd := by
  unfold State.searchRunEnd
  split
  · exact steady_lock _ s
  · split
    · exact steady_lock _ s
    · exact steady_restartSearch s

theorem steady_extendRun (s : State) (o : PerLane LaneOutcome) : Steady s (s.extendRun o) := .of_kept rfl

theorem steady_searchGroup (s : State) (o : PerLane LaneOutcome) : Steady s (s.searchGroup o) := by
  unfold State.searchGroup
  split
  · exact steady_restartSearch s
  · split
    · exact steady_extendRun s o
    · exact (steady_extendRun s o).trans (steady_searchRunEnd _)

theorem steady_reportOutcome (s : State) (l : Lane) (o : LaneOutcome) : Steady s (s.reportOutcome l o) := by
  unfold State.reportOutcome
  split
  · exact .refl s
  · exact steady_stat s _
  · exact steady_stat s _

theorem steady_countLane (o : PerLane LaneOutcome) (s : State) (l : Lane) : Steady s (s.countLane o l) := by
  unfold State.countLane
  split
  · exact (steady_reportOutcome _ l _).after (steady_modLane s l _)
  · exact .refl s

theorem steady_countGroup (s : State) (o : PerLane LaneOutcome) : Steady s (s.countGroup o) :=
  (Steady.foldl _ steady_laneLost _ _).after
    ((Steady.eachFree _ _ steady_laneFaulted _).after (Steady.foldl _ (steady_countLane o) _ _))

theorem steady_rejoin (s : State) (l : Lane) : Steady s (s.rejoin l) :=
  (steady_reevaluate _).after (.of_kept rfl)

theorem steady_rejoinLane (o : PerLane LaneOutcome) (s : State) (l : Lane) : Steady s (s.rejoinLane o l) := by
  unfold State.rejoinLane
  split
  · exact .refl s
  · split
    · split
      · split
        · exact steady_rejoin s l
        · exact steady_modLane s l _
      · exact steady_modLane s l _
    · exact steady_modLane s l _

theorem steady_rejoinGroup (s : State) (o : PerLane LaneOutcome) : Steady s (s.rejoinGroup o) := by
  unfold State.rejoinGroup
  split
  · split
    · exact steady_rejoinLane o s _
    · exact .refl s
  · exact .refl s

theorem steady_testLane (d : PerLane Delivery) (s : State) (l : Lane) : Steady s (s.testLane d l) := by
  unfold State.testLane
  split
  · exact steady_modLane s l _
  · exact .refl s

theorem steady_goQuiet (s : State) (l : Lane) : Steady s (s.goQuiet l) := by
  unfold State.goQuiet
  split
  · exact steady_modLane s l _
  · exact (steady_reevaluate _).after
      ((steady_laneLost _ l).after ((steady_raiseLaneFault 2 _ l).after (steady_modLane s l _)))
  · exact (steady_reevaluate _).after ((steady_raiseLaneFault 2 _ l).after (steady_modLane s l _))

theorem steady_seeActivity (s : State) (l : Lane) : Steady s (s.seeActivity l) := by
  unfold State.seeActivity
  split
  · exact steady_modLane s l _
  · exact .refl s

/-! ## Memory port (chapter 8) -/

theorem captureResult_causes (x : PortCtl) (st : Status) (data : List Byte) :
    (x.captureResult st data).causes = x.causes := by
  unfold PortCtl.captureResult
  split <;> rfl

theorem steady_endCapture (s : State) (p : Port) (st : Status) (data : List Byte) :
    Steady s (s.endCapture p st data) :=
  (steady_setPort _ p _ (captureResult_causes _ st data)).after (.of_kept rfl)

theorem steady_dropCapture (s : State) (p : Port) : Steady s (s.dropCapture p) := by
  unfold State.dropCapture
  split
  · exact steady_endCapture s p _ _
  · exact .refl s

theorem steady_dropCaptures (s : State) : Steady s s.dropCaptures :=
  (steady_dropCapture s .system).trans (steady_dropCapture _ .link)

theorem steady_dropDeadHeads (s : State) : Steady s s.dropDeadHeads := by
  unfold State.dropDeadHeads
  split
  · exact .refl s
  · exact .of_kept rfl

theorem steady_emptyStaging (s : State) : Steady s s.emptyStaging := .of_kept rfl
theorem steady_withdrawCapture (s : State) (p : Port) : Steady s (s.withdrawCapture p) := .of_kept rfl

theorem steady_grantCapture (s : State) (p : Port) : Steady s (s.grantCapture p) := by
  unfold State.grantCapture
  split
  · exact .refl s
  · dsimp only
    split
    · exact .of_kept rfl
    · exact (steady_endCapture _ p _ _).after (.of_kept rfl)

theorem steady_grantOnce (s : State) : Steady s s.grantOnce := by
  unfold State.grantOnce
  split
  · exact .of_kept rfl
  · split
    · exact .of_kept rfl
    · split
      · exact .of_kept rfl
      · split
        · exact .of_kept rfl
        · split
          · exact steady_grantCapture s _
          · exact .refl s

theorem steady_arbitrateFor (n : Nat) (s : State) : Steady s (State.arbitrateFor n s) := by
  induction n generalizing s with
  | zero => exact .refl s
  | succ n ih =>
    unfold State.arbitrateFor
    split
    · exact (steady_grantOnce s).trans (ih _)
    · exact .refl s

theorem unretained_unpinned (s : State) (k : Fin 5) (h : k ∈ s.unretained) : (s.slot k).unpinned := by
  have hk := (List.mem_filter.mp h).2
  rw [Bool.and_eq_true, Bool.not_eq_true'] at hk
  exact (unpinned_iff _).mpr hk.2

/-- Retention frees no slot that a pin holds. -/
theorem steady_retain (s : State) : Steady s s.retain := by
  unfold State.retain
  dsimp only
  have h := Steady.eachFree (s.unretained.filter fun k => !(s.slot k).recorded) State.recordIfUnrecorded
    steady_recordIfUnrecorded s
  exact h.trans (steady_foldl_freeSlot _ _ fun k hk => h.unpinned (unretained_unpinned s k hk))

theorem steady_enterSelfRefresh (s : State) : Steady s s.enterSelfRefresh :=
  (steady_retain _).after (.of_kept rfl)

theorem steady_checkRest (s : State) : Steady s s.checkRest := by
  unfold State.checkRest
  split
  · exact steady_enterSelfRefresh s
  · exact .refl s

theorem steady_settleMemory (s : State) : Steady s s.settleMemory :=
  (steady_checkRest _).after
    ((steady_arbitrateFor 3 _).after ((steady_checkRest _).after (steady_dropDeadHeads s)))

theorem steady_memoryAwake (s : State) : Steady s s.memoryAwake := .of_kept rfl

theorem steady_finishStagingWrite (s : State) (l : StagedLine) (addr : Nat) (queued : Bool) :
    Steady s (s.finishStagingWrite l addr queued) :=
  (steady_lineWritten _ l).after (.of_kept rfl)

theorem steady_finishScanRead (s : State) (r : ScanRead) (addr : Nat) (live : Bool) :
    Steady s (s.finishScanRead r addr live) :=
  { Steady.refl s with
    scan := by
      unfold State.finishScanRead
      dsimp only
      split
      · exact Option.isSome_map
      · rfl }

theorem steady_finishCaptureRead (s : State) (p : Port) (r : CaptureRead) (addr : Nat) (wanted : Bool) :
    Steady s (s.finishCaptureRead p r addr wanted) := by
  unfold State.finishCaptureRead
  dsimp only
  split
  · exact (steady_endCapture _ p _ _).after (.of_kept rfl)
  · exact .of_kept rfl

theorem steady_finishRefresh (s : State) : Steady s s.finishRefresh := .of_kept rfl

/-! ## Scan-out (chapter 5) -/

theorem steady_reportSlice (s : State) (cls : Option SliceClass) : Steady s (s.reportSlice cls) := by
  unfold State.reportSlice
  split
  · exact steady_stat s _
  · exact steady_stat s _
  · exact .refl s

theorem steady_askFallback (s : State) (c : Scan) (k : Fin 5) (j : Nat) : Steady s (s.askFallback c k j).1 := by
  unfold State.askFallback
  split
  · exact .refl s
  · split
    · split
      · exact .refl s
      · exact steady_checkEntry s _ j
    · exact .refl s

theorem steady_fetchSlice (s : State) (j : Nat) : Steady s (s.fetchSlice j) := by
  unfold State.fetchSlice
  split
  · exact .refl s
  · split
    · rename_i c _ _ _ k p _ _
      extract_lets s1 r d s2
      have h1 : Steady s r.1 := (steady_askFallback s1 c k j).after (steady_checkEntry s k j)
      have h2 : Steady s s2 := (steady_reportSlice _ _).after ((steady_modScan _ _).after h1)
      exact h2.trans (.of_kept rfl)
    · exact .refl s

theorem steady_fetchAt (s : State) (y : Nat) : Steady s (s.fetchAt y) := by
  unfold State.fetchAt
  split
  · exact Steady.foldl _ steady_fetchSlice _ _
  · exact .refl s

theorem steady_missedRead (s : State) (j : Nat) (d : SliceDecision) : Steady s (s.missedRead j d) :=
  (steady_reportSlice _ _).after (steady_modScan s _)

theorem steady_baseLine (s : State) (c : Scan) (y : Nat) : Steady s (s.baseLine c y).1 := by
  unfold State.baseLine
  split
  · exact .refl s
  · split
    · dsimp only
      split
      · exact .refl s
      · exact .refl s
      · split
        · exact .refl s
        · exact steady_missedRead s _ _
      · split
        · exact .refl s
        · exact steady_missedRead s _ _
    · exact .refl s

theorem steady_reportNewScan (s : State) (c : Scan) (k : Fin 5) : Steady s (s.reportNewScan c k) := by
  unfold State.reportNewScan
  extract_lets part s1 s2 s3
  have h1 : Steady s s1 := steady_appendRecord s k _ _
  have h2 : Steady s s2 := by
    simp only [s2]
    split
    · exact (steady_raise _ _ _ (by decide)).after h1
    · exact h1
  have h3 : Steady s s3 := .after (steady_modSlot_of_frame s2 k _ fun _ => ⟨rfl, rfl, rfl⟩) h2
  split
  · refine h3.trans (.of_kept ?_)
    unfold Pacing.afterScan
    split
    · rfl
    · split <;> rfl
  · exact h3

/-! ## Pacing engine (chapter 4) -/

theorem steady_takeArrival (s : State) (w h : Nat) : Steady s (s.takeArrival w h) := by
  unfold State.takeArrival
  dsimp only
  split
  · exact (steady_pacingLock s).trans (.of_kept rfl)
  · split
    · exact .of_kept rfl
    · exact .of_kept rfl

theorem steady_predict (s : State) (k : Fin 5) : Steady s (s.predict k) := by
  unfold State.predict
  split
  · exact .of_kept rfl
  · exact .of_kept rfl

theorem steady_planRepeats (s : State) : Steady s s.planRepeats := by
  unfold State.planRepeats
  dsimp only
  split
  · split
    · exact .of_kept rfl
    · exact .of_kept rfl
  · exact .of_kept rfl

theorem steady_openNew (s : State) (k : Fin 5) : Steady s (s.openNew k) := by
  unfold State.openNew
  extract_lets s1 s2 p s3
  have h1 : Steady s s1 := Steady.eachFree _ _ steady_supersede s
  have h2 : Steady s s2 := .after (steady_modSlot_of_frame s1 k _ fun _ => ⟨rfl, rfl, rfl⟩) h1
  have h3 : Steady s s3 := (steady_reevalRepeatDuring _ (some k)).after (h2.trans (.of_kept rfl))
  exact (steady_planRepeats _).after ((steady_predict s3 k).after h3)

theorem steady_openRepeat (s : State) (k : Fin 5) : Steady s (s.openRepeat k) :=
  have h : Steady s (s.modSlot k fun r => { r with underScan := true, repeatCount := satInc 65535 r.repeatCount }) :=
    steady_modSlot_of_frame s k _ fun _ => ⟨rfl, rfl, rfl⟩
  h.trans (.of_kept rfl)

theorem steady_openKind (s : State) (kind : ScanKind) (k : Option (Fin 5)) : Steady s (s.openKind kind k) := by
  unfold State.openKind
  split
  · exact steady_openNew s _
  · exact steady_openRepeat s _
  · exact steady_stat s _

/-! ## Frame assembly (sections 2.4 to 2.7) -/

theorem steady_takeDescriptor (s : State) (w : LaneWord) : Steady s (s.takeDescriptor w) := by
  unfold State.takeDescriptor
  split
  · exact steady_stat s _
  · exact .of_kept rfl

theorem steady_pixelGroup (s : State) (v : PerLane (Option LaneWord)) : Steady s (s.pixelGroup v) := by
  unfold State.pixelGroup
  split
  · exact .refl s
  · dsimp only
    split
    · exact .refl s
    · split <;> exact .of_kept rfl

theorem steady_stageLine (s : State) (f : RxFrame) (concealed : Bool) (pixels : List Rgb) :
    Steady s (s.stageLine f concealed pixels) := by
  unfold State.stageLine
  extract_lets y joins s1
  have h1 : Steady s s1 := steady_lineCompleted s f.slot y concealed joins
  split
  · exact (steady_wakeMemory _).after (h1.trans (.of_kept rfl))
  · exact (steady_stat _ _).after ((steady_lineDiscarded s1 f.slot y).after h1)

theorem steady_lineEnd (s : State) (f : RxFrame) : Steady s (s.lineEnd f) := by
  unfold State.lineEnd
  split
  · exact .of_kept rfl
  · extract_lets line concealed s1 s2
    have h1 : Steady s s1 := steady_stageLine s f _ _
    have h2 : Steady s s2 := by
      simp only [s2]
      split
      · exact h1.trans (steady_stat _ _)
      · exact h1
    exact h2.trans (.of_kept rfl)

theorem steady_frameEnd (s : State) : Steady s s.frameEnd := by
  unfold State.frameEnd
  split
  · extract_lets u l s1
    refine (steady_applyInputNow s1).after ?_
    simp only [s1]
    split
    · exact (steady_frameEnded s _).trans (.of_kept rfl)
    · exact steady_cutReceived s
  · exact .of_kept rfl

theorem steady_clearRejoin (s : State) : Steady s s.clearRejoin := steady_mapLanes s _
theorem steady_discardFrame (s : State) : Steady s s.discardFrame := .of_kept rfl

theorem steady_refuseFrame (s : State) (reason : Nat) : Steady s (s.refuseFrame reason) :=
  have h := steady_raise s .formatRefused (causeDetail reason 0) (by decide)
  (steady_discardFrame _).after ((steady_reevaluate _).after (h.trans (.of_kept rfl)))

theorem steady_countFrame (s : State) (w : LaneWord) : Steady s (s.countFrame w) :=
  .of_kept rfl

theorem steady_loneControl (s : State) (ws : List LaneWord) : Steady s (s.loneControl ws) := by
  unfold State.loneControl
  split
  · exact steady_stat s _
  · exact .refl s

theorem steady_takeOutcomes (s : State) (o : PerLane LaneOutcome) : Steady s (s.takeOutcomes o) := by
  unfold State.takeOutcomes
  split
  · split
    · exact .refl s
    · exact steady_searchGroup s o
  · exact steady_countGroup s o
  · exact (steady_rejoinGroup _ o).after (steady_countGroup s o)

theorem steady_testGroup (s : State) (d : PerLane Delivery) : Steady s (s.testGroup d) := by
  unfold State.testGroup
  split
  · exact Steady.foldl _ (steady_testLane d) _ _
  · exact .refl s

/-! ## The arrival, and the end of a transaction -/

/-- Before the upsets strike, relay time has advanced and PANEL READY may have fallen. -/
def State.clocked (s : State) (e : Env) : State :=
  { s.advance e.elapsed with panelReady := s.panelReady && !e.panelReadyFell }

theorem steady_arrive (s : State) (e : Env) : Steady (s.clocked e) (s.arrive e) :=
  Steady.foldl State.strike (fun t u => steady_modSlot_of_frame t u.slot _ fun _ => ⟨rfl, rfl, rfl⟩) _ _

theorem steady_endTxn (s : State) (p : Port) (st : Status) (data : List Byte) : Steady s (s.endTxn p st data) :=
  steady_setPort s p _ rfl

end Sys2Proof.Machine
end

section
/-! What a panel apply, a scan open, a close and a hold do to the scan-out; that a current scan is held exactly while the
scan-out scans. -/
namespace Sys2Proof.Machine

/-! ## The scan-out under the operations of the frame store -/

@[simp] theorem sco_reevalRepeat (s : State) : s.reevalRepeat.sco = s.sco := by
  unfold State.reevalRepeat State.reevalRepeatDuring
  split
  · split <;> rfl
  · rfl

@[simp] theorem sco_completeIfResolved (s : State) (k : Fin 5) : (s.completeIfResolved k).sco = s.sco := by
  unfold State.completeIfResolved State.completeSlot
  split
  · dsimp only
    rw [sco_reevalRepeat]
    split <;> rfl
  · rfl

@[simp] theorem sco_checkEntry (s : State) (k : Fin 5) (j : Nat) : (s.checkEntry k j).sco = s.sco := by
  unfold State.checkEntry
  split
  · rfl
  · rfl
  · rw [sco_completeIfResolved]; rfl

/-! ## Fetching and drawing -/

@[simp] theorem sco_reportSlice (s : State) (cls : Option SliceClass) : (s.reportSlice cls).sco = s.sco := by
  unfold State.reportSlice
  split <;> rfl

@[simp] theorem sco_askFallback (s : State) (c : Scan) (k : Fin 5) (j : Nat) : (s.askFallback c k j).1.sco = s.sco := by
  unfold State.askFallback
  split
  · rfl
  · split
    · split
      · rfl
      · exact sco_checkEntry s _ j
    · rfl

/-- A fetch decision leaves how wide the scan's panel lines are. -/
theorem scan_pw_fetchSlice (s : State) (j : Nat) : (s.fetchSlice j).sco.scan.map (·.pw) = s.sco.scan.map (·.pw) := by
  unfold State.fetchSlice
  split
  · rfl
  · split
    · simp only [sco_reportSlice, State.modScan, sco_askFallback, sco_checkEntry, Option.map_map]
      rfl
    · rfl

theorem scan_pw_fetchAt (s : State) (y : Nat) : (s.fetchAt y).sco.scan.map (·.pw) = s.sco.scan.map (·.pw) := by
  unfold State.fetchAt
  split
  · exact foldl_keeps (fun u => u.sco.scan.map (·.pw)) _ scan_pw_fetchSlice _ _
  · rfl

/-- Every panel line has PW pixels. -/
theorem length_baseLine (s : State) (c : Scan) (y : Nat) : (s.baseLine c y).2.length = c.pw := by
  have hb : c.borderLine.length = c.pw := List.length_replicate
  have hp : ∀ p pixels, (c.placeLine p pixels).length = c.pw := fun p pixels => by simp [Scan.placeLine]
  unfold State.baseLine
  split
  · exact hb
  · split
    · dsimp only
      split
      · exact hb
      · exact hb
      · split
        · exact hp _ _
        · exact hb
      · split
        · exact hp _ _
        · exact hb
    · exact hb

/-- With a current scan, the next panel line is sent with PW pixels, and the rest of what happens is steady. -/
theorem drawNext_of_scan (s : State) (c : Scan) (h : s.sco.scan = some c) :
    ∃ u pixels, Steady s u ∧ pixels.length = c.pw ∧ s.drawNext = u.send (.line c.nextLine pixels) := by
  have hf := steady_fetchAt s c.nextLine
  obtain ⟨d, hd⟩ := Option.isSome_iff_exists.mp (hf.scan.trans (by rw [h]; rfl))
  have hpw : d.pw = c.pw := by
    have := scan_pw_fetchAt s c.nextLine
    rwa [hd, h, Option.map_some, Option.map_some, Option.some.injEq] at this
  refine ⟨_, s.ovl.composeLine c.nextLine ((s.fetchAt c.nextLine).baseLine d c.nextLine).2,
    (steady_modScan _ fun x => ({ x with nextLine := c.nextLine + 1 } : Scan).release).after
      ((steady_baseLine _ d c.nextLine).after hf), ?_, ?_⟩
  · rw [Overlay.composeLine, List.length_map, List.length_zipIdx, length_baseLine, hpw]
  · simp only [State.drawNext, h, hd]

theorem drawNext_of_no_scan (s : State) (h : s.sco.scan = none) : s.drawNext = s := by
  simp only [State.drawNext, h]

/-- What is drawn changes the link, and for the rest is steady. -/
theorem steady_drawNext (s : State) : Steady { s with link := s.drawNext.link } s.drawNext := by
  cases h : s.sco.scan with
  | none => rw [drawNext_of_no_scan s h]; exact .refl s
  | some c =>
    obtain ⟨u, pixels, hu, _, e⟩ := drawNext_of_scan s c h
    rw [e]
    exact
      { hu with
        still := congrArg (fun x : Still => { x with link := u.link ++ [Marker.line c.nextLine pixels] }) hu.still }

/-! ## The panel apply (R11) -/

theorem Even.after {s t u : State} (k : Even t u) (h : Even s t) : Even s u := h.trans k

theorem even_raise (s : State) (c : Cause) (d : BitVec 16) : Even s (s.raise c d) :=
  { Even.refl s with pending := fun _ _ => pending_raise c d }

theorem even_dropPin (s : State) (p : Port) : Even s (s.dropPin p) := by
  unfold State.dropPin
  split
  · exact { Even.refl s with }
  · exact .refl s

theorem even_expirePin (reason : Nat) (s : State) (p : Port) : Even s (s.expirePin reason p) :=
  (even_dropPin s p).trans (even_raise _ _ _)

theorem even_expirePins (reason : Nat) (ps : List Port) (s : State) : Even s (s.eachFree ps (State.expirePin reason)) := by
  have h : ∀ (qs : List Port) (u : State), Even u (qs.foldl (State.expirePin reason) u) := by
    intro qs
    induction qs with
    | nil => exact Even.refl
    | cons q qs ih => exact fun u => (even_expirePin reason u q).trans (ih _)
  exact Even.after (h _ _) { Even.refl s with }

theorem even_relayout (s : State) (c : PanelContract) : Even s (s.relayout c) := by
  unfold State.relayout
  extract_lets s1 _ s2
  have h0 : Even s s.cutAtBoundary.emptyStaging := ((steady_emptyStaging _).after (steady_cutAtBoundary s)).toEven
  have h1 : Even s s1 := (h0.trans (even_expirePins 2 _ _)).trans (steady_dropCaptures _).toEven
  have h2 : Even s1 s2 := { Even.refl s1 with }
  exact (h1.trans h2).trans { Even.refl s2 with waiting := fun _ => rfl }

/-- The contract registers after a waiting panel apply has taken effect. -/
def State.takePanel (s : State) : State :=
  match s.relay.waitingPanel with
  | none => s
  | some c => { s with relay.panel := some c, relay.waitingPanel := none }

theorem takePanel_panel (s : State) : s.takePanel.relay.panel = s.relay.waitingPanel.or s.relay.panel := by
  unfold State.takePanel
  split <;> simp [*]

theorem takePanel_waiting (s : State) : s.takePanel.relay.waitingPanel = none := by
  unfold State.takePanel
  split
  · assumption
  · rfl

/-- A panel apply takes the waiting contract; the rest of it, a relayout, is even. -/
theorem even_installPanel (s : State) : Even s.takePanel s.installPanel := by
  cases h : s.relay.waitingPanel with
  | none =>
    simp only [State.takePanel, State.installPanel, h]
    exact .refl s
  | some c =>
    simp only [State.takePanel, State.installPanel, h]
    split
    · exact (even_relayout _ _).after (even_raise _ _ _)
    · exact even_raise _ _ _

theorem installPanel_of_none (s : State) (h : s.relay.waitingPanel = none) : s.installPanel = s := by
  simp only [State.installPanel, h]

/-! ## The scan open (R84, R86 to R88, R129) -/

theorem steady_installOverlay (s : State) (kind : ScanKind) :
    Steady { s with ovl := (s.installOverlay kind).ovl } (s.installOverlay kind) := by
  unfold State.installOverlay
  split
  · exact .refl s
  · exact steady_raise _ .overlayApplied 0 (by decide)

theorem waiting_installOverlay (s : State) (kind : ScanKind) : (s.installOverlay kind).ovl.waiting = none := by
  unfold State.installOverlay
  split
  · assumption
  · rfl

/-- The scan-out as a scan begins, before anything is drawn. -/
def State.scanBegun (s : State) (kind : ScanKind) (k fallback : Option (Fin 5)) : State :=
  { s with sco.state := .scanning, sco.scan := some (s.newScan kind k fallback), link := s.link ++ [.scanOpen kind] }

theorem beginScan_eq (s : State) (kind : ScanKind) (k fallback : Option (Fin 5)) :
    s.beginScan kind k fallback = (s.scanBegun kind k fallback).drawNext := rfl

theorem beginScan_line (s : State) (kind : ScanKind) (k fallback : Option (Fin 5)) :
    ∃ u pixels, Steady (s.scanBegun kind k fallback) u ∧ pixels.length = s.contract.pw ∧
      s.beginScan kind k fallback = u.send (.line 0 pixels) :=
  drawNext_of_scan (s.scanBegun kind k fallback) _ rfl

/-- The panel contract stays, and the relay state is as it was or as the contract has it. -/
structure RelayKept (s t : State) : Prop where
  panel : t.relay.panel = s.relay.panel
  state : t.relay.state = s.relay.state ∨ (t.relay.state = .idle ↔ t.relay.panel = none)

theorem Even.relayKept {s t : State} (h : Even s t) : RelayKept s t := ⟨h.panel, h.relay⟩

theorem RelayKept.trans {s t u : State} (h : RelayKept s t) (k : RelayKept t u) : RelayKept s u where
  panel := k.panel.trans h.panel
  state := by
    rcases k.state with e | g
    · rw [e, k.panel]; exact h.state
    · exact .inr g

/-- What every scan open brings: a scan with SCAN_OPEN and panel line 0 sent, the open recorded, no panel apply and no
overlay commit waiting. -/
structure Opens (s t : State) : Prop where
  state : t.sco.state = .scanning
  scan : t.sco.scan.isSome = true
  relay : RelayKept s.takePanel t
  waitingPanel : t.relay.waitingPanel = none
  overlay : t.ovl.waiting = none
  tminReached : t.pacing.tminReached = false
  waitingRepeat : t.pacing.waitingRepeat = false
  pending : ∀ p c, ((s.port p).flags c).pending = true → ((t.port p).flags c).pending = true
  sent : ∃ kind pixels, t.link = s.link ++ [.scanOpen kind, .line 0 pixels] ∧ pixels.length = t.contract.pw ∧
    (t.pacing.lastOpen.map fun o => (o.time, o.kind)) = some (s.relayTime, kind)

theorem takePanel_of_none (s : State) (h : s.relay.waitingPanel = none) : s.takePanel = s := by
  simp only [State.takePanel, h]

theorem takePanel_frame (s : State) : s.takePanel.link = s.link ∧ s.takePanel.relayTime = s.relayTime ∧
    ∀ p, s.takePanel.port p = s.port p := by
  unfold State.takePanel
  split <;> exact ⟨rfl, rfl, fun _ => rfl⟩

/-- The open after the panel apply: recorded, of its kind, with the overlay commit installed, and begun. -/
def State.openAs (s : State) (kind : ScanKind) (k fallback : Option (Fin 5)) : State :=
  (((s.recordOpen kind).openKind kind k).installOverlay kind).beginScan kind k fallback

theorem openScan_eq (s : State) : s.openScan = s.installPanel.openAs s.installPanel.chooseScan.1
    s.installPanel.chooseScan.2
    (fallbackFor s.installPanel.chooseScan.1 s.installPanel.chooseScan.2 s.installPanel.pacing.repeatSource) := rfl

theorem openAs_opens (s : State) (kind : ScanKind) (k fallback : Option (Fin 5)) (h : s.relay.waitingPanel = none) :
    Opens s (s.openAs kind k fallback) := by
  have hk := steady_openKind (s.recordOpen kind) kind k
  have ho := steady_installOverlay ((s.recordOpen kind).openKind kind k) kind
  obtain ⟨u, pixels, hu, hlen, e⟩ :=
    beginScan_line (((s.recordOpen kind).openKind kind k).installOverlay kind) kind k fallback
  rw [State.openAs, e]
  have hlast : u.pacing.lastOpen = (s.recordOpen kind).pacing.lastOpen :=
    hu.lastOpen.trans (ho.lastOpen.trans hk.lastOpen)
  have hlink : u.link = s.link ++ [.scanOpen kind] :=
    hu.link.trans (congrArg (· ++ [Marker.scanOpen kind]) (ho.link.trans hk.link))
  have hrelay : RelayKept (s.recordOpen kind) u :=
    (RelayKept.trans hk.relayKept ⟨ho.panel, ho.relay⟩).trans ⟨hu.panel, hu.relay⟩
  have hlines : pixels.length = u.contract.pw := hlen.trans (congrArg PanelContract.pw hu.contract.symm)
  exact
    { state := hu.scanOut
      scan := hu.scan
      relay := by rw [takePanel_of_none s h]; exact ⟨hrelay.panel, hrelay.state⟩
      waitingPanel := (hu.waitingPanel.trans (ho.waitingPanel.trans hk.waitingPanel)).trans h
      overlay := (congrArg Overlay.waiting hu.ovl).trans (waiting_installOverlay _ kind)
      tminReached := hu.tminReached.trans (ho.tminReached.trans hk.tminReached)
      waitingRepeat := hu.waiting (ho.waiting (hk.waiting rfl))
      pending := fun p c hp => hu.pending p c (ho.pending p c (hk.pending p c hp))
      sent := ⟨kind, pixels,
        by rw [State.send, hlink, List.append_assoc]; rfl, hlines,
        (congrArg (Option.map fun o => (o.time, o.kind)) hlast).trans rfl⟩ }

theorem openScan_opens (s : State) : Opens s s.openScan := by
  have hi := even_installPanel s
  obtain ⟨hlink, htime, hport⟩ := takePanel_frame s
  have hw : s.installPanel.relay.waitingPanel = none := hi.waitingPanel.trans (takePanel_waiting s)
  rw [openScan_eq]
  have ho := openAs_opens s.installPanel s.installPanel.chooseScan.1 s.installPanel.chooseScan.2
    (fallbackFor s.installPanel.chooseScan.1 s.installPanel.chooseScan.2 s.installPanel.pacing.repeatSource) hw
  have hr := ho.relay
  rw [takePanel_of_none _ hw] at hr
  exact
    { ho with
      relay := hi.relayKept.trans hr
      pending := fun p c hp => ho.pending p c (hi.pending p c (by rw [hport]; exact hp))
      sent := by rw [← hlink, ← htime, ← hi.link, ← hi.relayTime]; exact ho.sent }

/-! ## Where the scan-out and the panel contract agree -/

theorem scanAgrees_of_even {s t : State} (h : s.ScanAgrees) (k : Even s t) : t.ScanAgrees where
  scan := by rw [k.scan, k.scanOut]; exact h.scan
  idle := by
    rcases k.relay with e | g
    · rw [e, k.panel]; exact h.idle
    · exact g
  quiet := by rw [k.scanOut, k.panel]; exact h.quiet

/-- The agreement rests on the relay and the scan-out alone. -/
theorem scanAgrees_congr {s t : State} (h : s.ScanAgrees) (hr : t.relay = s.relay) (hs : t.sco = s.sco) :
    t.ScanAgrees := by
  obtain ⟨scan, idle, quiet⟩ := h
  exact ⟨by rw [hs]; exact scan, by rw [hr]; exact idle, by rw [hs, hr]; exact quiet⟩

/-- The relay is out of IDLE, under a panel contract. -/
structure State.Running (s : State) : Prop where
  panel : s.relay.panel ≠ none
  state : s.relay.state ≠ .idle

theorem State.ScanAgrees.running_of_state {s : State} (h : s.ScanAgrees) (hs : s.relay.state ≠ .idle) : s.Running :=
  ⟨fun hp => hs (h.idle.mpr hp), hs⟩

theorem State.ScanAgrees.running_of_scanOut {s : State} (h : s.ScanAgrees) (hs : s.sco.state ≠ .quiet) : s.Running := by
  have hp : s.relay.panel ≠ none := fun hp => hs (h.quiet.mpr hp)
  exact ⟨hp, fun hi => hp (h.idle.mp hi)⟩

/-- A running relay agrees with a scan-out that is out of QUIET and scans exactly with a current scan. -/
theorem State.Running.scanAgrees {s : State} (h : s.Running) (hs : s.sco.scan.isSome = true ↔ s.sco.state = .scanning)
    (hq : s.sco.state ≠ .quiet) : s.ScanAgrees where
  scan := hs
  idle := ⟨fun e => absurd e h.state, fun e => absurd e h.panel⟩
  quiet := ⟨fun e => absurd e hq, fun e => absurd e h.panel⟩

theorem State.Running.of_relayKept {s t : State} (h : s.Running) (k : RelayKept s t) : t.Running := by
  have hp : t.relay.panel ≠ none := by rw [k.panel]; exact h.panel
  refine ⟨hp, ?_⟩
  rcases k.state with e | g
  · rw [e]; exact h.state
  · exact fun hi => hp (g.mp hi)

theorem State.Running.takePanel {s : State} (h : s.Running) : s.takePanel.Running := by
  unfold State.takePanel
  split
  · exact h
  · exact ⟨Option.some_ne_none _, h.state⟩

theorem scanAgrees_openScan {s : State} (h : s.Running) : s.openScan.ScanAgrees := by
  have o := openScan_opens s
  exact State.Running.scanAgrees (h.takePanel.of_relayKept o.relay) (by simp [o.scan, o.state]) (by simp [o.state])

/-! ## Hold and wake -/

/-- The scan-out holds no scan where it agrees and does not scan. -/
theorem State.ScanAgrees.no_scan {s : State} (h : s.ScanAgrees) (hs : s.sco.state ≠ .scanning) : s.sco.scan.isSome = false := by
  rw [← Bool.not_eq_true, h.scan]
  exact hs

/-- With the scan-out brought to another state that has no scan, a running relay still agrees. -/
theorem scanAgrees_of_unscanned {s t : State} (h : t.Running) (hno : s.sco.scan.isSome = false)
    (hscan : t.sco.scan = s.sco.scan) (hq : t.sco.state ≠ .quiet) (hs : t.sco.state ≠ .scanning) : t.ScanAgrees :=
  h.scanAgrees (by rw [hscan, hno]; simp [hs]) hq

theorem scanAgrees_enterHold {s : State} (h : s.ScanAgrees) (hs : s.sco.state = .ready) : s.enterHold.ScanAgrees := by
  have hr := h.running_of_scanOut (by rw [hs]; decide)
  exact scanAgrees_of_unscanned (s := s) (t := s.enterHold) ⟨hr.panel, hr.state⟩ (h.no_scan (by rw [hs]; decide)) rfl
    nofun nofun

theorem mayHold_ready {s : State} (h : s.mayHold = true) : s.sco.state = .ready := by
  simp only [State.mayHold, Bool.and_eq_true, decide_eq_true_eq] at h
  exact h.2

theorem scanAgrees_holdOrOpen {s : State} (h : s.ScanAgrees) (hr : s.Running) : s.holdOrOpen.ScanAgrees := by
  unfold State.holdOrOpen
  split
  · exact scanAgrees_enterHold h (mayHold_ready ‹_›)
  · exact scanAgrees_openScan hr

theorem scanAgrees_completeWake {s : State} (ending : WakeEnding) (hr : s.Running) (hno : s.sco.scan.isSome = false) :
    (s.completeWake ending).ScanAgrees := by
  rcases completeWake_cases s ending with ⟨_, e⟩ | ⟨_, e⟩
  · rw [e]
    exact scanAgrees_openScan ⟨hr.panel, hr.state⟩
  · rw [e]
    exact scanAgrees_of_unscanned (s := s) ⟨hr.panel, hr.state⟩ hno rfl nofun nofun

theorem scanAgrees_wakeLate {s : State} (hr : s.Running) (hno : s.sco.scan.isSome = false) : s.wakeLate.ScanAgrees := by
  unfold State.wakeLate
  split
  · exact scanAgrees_completeWake _ hr hno
  · exact scanAgrees_completeWake _ ⟨hr.panel, hr.state⟩ hno

/-- The panel is asked to wake: HOLD_EXIT sent, the scan-out WAKING. -/
def State.beginWake (s : State) (t : HoldTrigger) : State :=
  { s.send .holdExit with
    sco.state := .waking
    sco.lastHoldExit := some (s.relayTime, t)
    sco.wakeDeadline := some { origin := s.relayTime, span := s.contract.x } }

theorem exitHold_of_not_holding (s : State) (t : HoldTrigger) (h : s.sco.state ≠ .holding) : s.exitHold t = s :=
  if_neg h

/-- The wake ends at once with PANEL READY, or with X = 0; otherwise the scan-out waits. -/
theorem exitHold_of_holding (s : State) (t : HoldTrigger) (h : s.sco.state = .holding) :
    s.exitHold t = if (s.beginWake t).wakeMemory.panelReady then (s.beginWake t).wakeMemory.completeWake .ready
      else if (s.beginWake t).wakeMemory.contract.x = 0 then (s.beginWake t).wakeMemory.wakeLate
      else (s.beginWake t).wakeMemory := if_pos h

theorem scanAgrees_exitHold {s : State} (h : s.ScanAgrees) (t : HoldTrigger) : (s.exitHold t).ScanAgrees := by
  by_cases hh : s.sco.state = .holding
  · have hr : s.Running := h.running_of_scanOut (by rw [hh]; decide)
    have hw := steady_wakeMemory (s.beginWake t)
    have hr2 : (s.beginWake t).wakeMemory.Running :=
      State.Running.of_relayKept (s := s.beginWake t) ⟨hr.panel, hr.state⟩ hw.relayKept
    have hno : (s.beginWake t).wakeMemory.sco.scan.isSome = false := hw.scan.trans (h.no_scan (by rw [hh]; decide))
    have hs : (s.beginWake t).wakeMemory.sco.state = .waking := hw.scanOut
    rw [exitHold_of_holding s t hh]
    split
    · exact scanAgrees_completeWake _ hr2 hno
    · split
      · exact scanAgrees_wakeLate hr2 hno
      · exact hr2.scanAgrees (by rw [hno, hs]; decide) (by rw [hs]; decide)
  · rw [exitHold_of_not_holding s t hh]
    exact h

/-! ## What follows an event -/

theorem scanAgrees_evaluateStart {s : State} (h : s.ScanAgrees) : s.evaluateStart.ScanAgrees := by
  unfold State.evaluateStart
  split
  · rename_i hc
    exact scanAgrees_openScan (h.running_of_state hc.1)
  · exact h

theorem scanAgrees_respan {s : State} (h : s.ScanAgrees) (before : State) : (s.respan before).ScanAgrees := by
  unfold State.respan
  split
  · rename_i hc
    exact scanAgrees_holdOrOpen h (h.running_of_state hc.2.1)
  · exact h

theorem scanAgrees_settle {s : State} (h : s.ScanAgrees) (before : State) : (s.settle before).ScanAgrees :=
  scanAgrees_of_even (scanAgrees_evaluateStart (scanAgrees_respan h before)) (steady_settleMemory _).toEven

/-! ## The close (R106) -/

theorem steady_endScan (s : State) (c : Scan) (ending : ScanEnding) :
    Steady { s with sco := (s.endScan c ending).sco } (s.endScan c ending) := by
  unfold State.endScan
  split
  · exact (steady_modSlot_of_frame { s with sco := _ } _ (fun r => { r with underScan := false })
      fun _ => ⟨rfl, rfl, rfl⟩).trans (.of_kept rfl)
  · exact .of_kept rfl

theorem sco_endScan (s : State) (c : Scan) (ending : ScanEnding) :
    (s.endScan c ending).sco = { s.sco with scan := none, state := .ready, lastScan := some (c.summary ending) } := by
  unfold State.endScan
  split <;> rfl

theorem scanAgrees_endScan {s : State} (c : Scan) (ending : ScanEnding) (hr : s.Running) :
    (s.endScan c ending).ScanAgrees := by
  have h := steady_endScan s c ending
  refine State.Running.scanAgrees (State.Running.of_relayKept (s := { s with sco := (s.endScan c ending).sco })
    ⟨hr.panel, hr.state⟩ h.relayKept) ?_ ?_
  · rw [sco_endScan]; simp
  · rw [sco_endScan]; simp

/-- The report of a NEW scan's close, or nothing for the other kinds. -/
def State.reportClose (s : State) (c : Scan) : State :=
  match c.kind, c.slot with
  | .new, some k => s.reportNewScan c k
  | _, _ => s

theorem steady_reportClose (s : State) (c : Scan) : Steady s (s.reportClose c) := by
  unfold State.reportClose
  split
  · exact steady_reportNewScan s c _
  · exact .refl s

theorem closeScan_eq (s : State) (c : Scan) :
    s.closeScan c = (((s.send .scanClose).reportClose c).endScan c .closed).reevalRepeatFull := by
  unfold State.closeScan State.reportClose
  cases c.kind <;> cases c.slot <;> rfl

theorem scanAgrees_closeScan {s : State} (h : s.ScanAgrees) (c : Scan) (hc : s.sco.scan = some c) :
    (s.closeScan c).ScanAgrees := by
  have hs : s.sco.state = .scanning := h.scan.mp (by rw [hc]; rfl)
  have hr : s.Running := h.running_of_scanOut (by rw [hs]; decide)
  rw [closeScan_eq]
  refine scanAgrees_of_even (scanAgrees_endScan c .closed ?_) (steady_reevalRepeatFull _).toEven
  exact State.Running.of_relayKept (s := s.send .scanClose) ⟨hr.panel, hr.state⟩ (steady_reportClose _ c).relayKept

/-! ## The frame start (R31 to R33) -/

theorem even_countDownPins (s : State) : Even s s.countDownPins :=
  (even_expirePins 1 _ _).after { Even.refl s with }

theorem takeSlot_cases (s t : State) (k : Fin 5) (h : s.takeSlot = some (k, t)) :
    (s.lowestFree = some k ∧ t = s) ∨
      (s.reclaimChoice = some k ∧ t = (s.recordIfUnrecorded k).freeSlot k) := by
  unfold State.takeSlot at h
  split at h
  · rename_i j hj
    obtain ⟨rfl, rfl⟩ := Prod.mk.inj (Option.some.inj h)
    exact .inl ⟨hj, rfl⟩
  · split at h
    · rename_i j hj
      obtain ⟨rfl, rfl⟩ := Prod.mk.inj (Option.some.inj h)
      exact .inr ⟨hj, rfl⟩
    · cases h

end Sys2Proof.Machine
end

section
/-! What a property needs that every steady operation keeps, so that every step keeps it; the agreement of the scan-out as
the first such property. -/
namespace Sys2Proof.Machine

/-- A property that survives every steady operation, and the few operations that are not steady. -/
structure SteadyInvariant (P : State → Prop) : Prop where
  steady : ∀ s t, P s → Steady s t → P t
  clock : ∀ s n ready, P s → P { s.advance n with panelReady := ready }
  pop : ∀ s rest, P s → P { s with pending := rest }
  panelReady : ∀ s, P s → P { s with panelReady := true }
  powerOn : ∀ straps s, P s → P
    { State.powerOn straps with pending := s.pending, choices := s.choices, panelReady := s.panelReady }
  setPort : ∀ s p x, P s → P (s.setPort p x)
  raise : ∀ s c d, P s → P (s.raise c d)
  settle : ∀ s before, P s → P (s.settle before)
  openFrame : ∀ s w width height t, P s → s.openFrame w width height = some t → P t
  tminReached : ∀ s, P s → s.relay.state ≠ .idle → P (State.openWaiting { s with pacing.tminReached := true })
  holdOrOpen : ∀ s, P s → s.relay.state ≠ .idle → s.sco.state = .ready → P s.holdOrOpen
  takePlanned : ∀ s, P s → s.relay.state ≠ .idle → P s.takePlanned
  drawNext : ∀ s, P s → P s.drawNext
  closeScan : ∀ s c, P s → s.sco.scan = some c → P (s.closeScan c)
  completeWake : ∀ s ending, P s → s.sco.state = .waking → P (s.completeWake ending)
  setModeWord : ∀ s w, P s → P { s with peu.modeWord := w }
  writeRegion : ∀ s p r off ps, P s → P (s.writeRegion p r off ps)
  requestPanel : ∀ s, P s → P s.requestPanel.1
  requestCommit : ∀ s, P s → P s.requestCommit.1
  requestPin : ∀ s p, P s → P (s.requestPin p).1
  requestRelease : ∀ s p, P s → P (s.requestRelease p).1
  requestReset : ∀ s, P s → P s.requestReset.1

namespace SteadyInvariant

variable {P : State → Prop} (I : SteadyInvariant P)
include I

/-! ### A group period -/

theorem frameStart (s t : State) (w : LaneWord) (h : P s) (ht : s.frameStart w = some t) : P t := by
  have h1 : Steady s s.cutAtBoundary.clearRejoin := (steady_clearRejoin _).after (steady_cutAtBoundary s)
  unfold State.frameStart at ht
  dsimp only at ht
  split at ht
  · obtain rfl := Option.some.inj ht
    exact I.steady s _ h h1
  · split at ht
    · obtain rfl := Option.some.inj ht
      exact I.steady s _ h ((steady_discardFrame _).after h1)
    · split at ht
      · obtain rfl := Option.some.inj ht
        exact I.steady s _ h ((steady_refuseFrame _ _).after h1)
      · exact I.openFrame _ w _ _ t (I.steady s _ h h1) ht

theorem takeMark (s t : State) (w : LaneWord) (h : P s) (ht : s.takeMark w = some t) : P t := by
  unfold State.takeMark at ht
  split at ht
  · exact I.frameStart s t w h ht
  · split at ht
    · obtain rfl := Option.some.inj ht
      exact I.steady s _ h (steady_lineEnd s _)
    · obtain rfl := Option.some.inj ht
      exact h
  · obtain rfl := Option.some.inj ht
    exact I.steady s _ h (steady_frameEnd s)
  · obtain rfl := Option.some.inj ht
    exact I.steady s _ h (steady_stat s _)

theorem controlGroup (s t : State) (ws : List LaneWord) (h : P s) (ht : s.controlGroup ws = some t) : P t := by
  unfold State.controlGroup at ht
  split at ht
  · obtain rfl := Option.some.inj ht
    exact I.steady s _ h (steady_stat s _)
  · split at ht
    · obtain rfl := Option.some.inj ht
      exact I.steady s _ h (steady_takeDescriptor s _)
    · exact I.takeMark s t _ h ht

theorem useWords (s t : State) (aligner : AlignerState) (v : PerLane (Option LaneWord)) (h : P s)
    (ht : s.useWords aligner v = some t) : P t := by
  unfold State.useWords at ht
  dsimp only at ht
  split at ht
  · obtain rfl := Option.some.inj ht
    exact I.steady s _ h ((steady_pixelGroup _ v).after (steady_loneControl s _))
  · exact I.controlGroup s t _ h ht
  · obtain rfl := Option.some.inj ht
    exact I.steady s _ h (steady_loneControl s _)
  · obtain rfl := Option.some.inj ht
    exact I.steady s _ h (steady_loneControl s _)

theorem closeGroup (s : State) (d : PerLane Delivery) (t : State) (h : P s) (ht : s.closeGroup d = some t) : P t := by
  have h1 : P ((s.testGroup d).takeOutcomes (outcomes d)) :=
    I.steady s _ h ((steady_takeOutcomes _ _).after (steady_testGroup s d))
  unfold State.closeGroup at ht
  dsimp only at ht
  split at ht
  · obtain rfl := Option.some.inj ht
    exact h1
  · exact I.useWords _ t _ _ h1 ht

/-! ### Requests and writes -/

theorem requestInput (s : State) (h : P s) : P s.requestInput.1 := by
  unfold State.requestInput
  split
  · exact h
  · split
    · exact h
    · have hs : Steady s { s with relay.waitingInput := some s.peu.pendingInput } := .of_kept rfl
      dsimp only
      split
      · exact I.settle _ s (I.steady s _ h ((steady_applyInputNow _).after hs))
      · exact I.steady s _ h hs

theorem requestRealign (s : State) (h : P s) : P s.requestRealign.1 := by
  unfold State.requestRealign
  dsimp only
  exact I.settle _ s (I.steady s _ h (steady_enterSearch _ s))

theorem requestTestOn (s : State) (h : P s) : P s.requestTestOn.1 := by
  unfold State.requestTestOn
  dsimp only
  refine I.settle _ s (I.steady s _ h ((steady_reevaluate _).after ?_))
  exact (steady_enterSearch LaneRec.activate s).trans (.of_kept rfl)

theorem requestTestOff (s : State) (h : P s) : P s.requestTestOff.1 := by
  unfold State.requestTestOff
  dsimp only
  split
  · exact I.steady s _ h ((steady_reevaluate _).after (.of_kept rfl))
  · exact h

theorem writeModeWord (s : State) (p : Port) (ps : List (Byte × Byte)) (h : P s) : P (s.writeModeWord p ps).1 := by
  unfold State.writeModeWord State.setModeWord
  dsimp only
  split
  · exact I.settle _ s (I.steady _ _ (I.setModeWord s _ h) (steady_loseLock _))
  · exact I.setModeWord s _ h

/-- Every other field of `Invariant` is a steady operation, or one of these with `settle` after it. -/
theorem invariant : Invariant P where
  tick s h := I.clock s 1 s.panelReady h
  pop := I.pop
  arrive s e h := I.steady _ _ (I.clock s e.elapsed _ h) (steady_arrive s e)
  powerOn := I.powerOn
  setPort := I.setPort
  raise := I.raise
  settle := I.settle
  settleMemory s h := I.steady s _ h (steady_settleMemory s)
  closeGroup := I.closeGroup
  goQuiet s l h := I.steady s _ h (steady_goQuiet s l)
  seeActivity s l h := I.steady s _ h (steady_seeActivity s l)
  finishStagingWrite s l a q h := I.steady s _ h (steady_finishStagingWrite s l a q)
  finishScanRead s r a live h := I.steady s _ h (steady_finishScanRead s r a live)
  finishCaptureRead s p r a w h := I.steady s _ h (steady_finishCaptureRead s p r a w)
  finishRefresh s h := I.steady s _ h (steady_finishRefresh s)
  oweRefresh s h := I.steady s _ h (.of_kept rfl)
  endCapture s p st data h := I.steady s _ h (steady_endCapture s p st data)
  withdrawCapture s p h := I.steady s _ h (steady_withdrawCapture s p)
  setCapture s _ h := I.steady s _ h (.of_kept rfl)
  wakeMemory s h := I.steady s _ h (steady_wakeMemory s)
  memoryAwake s h := I.steady s _ h (steady_memoryAwake s)
  leadReached s k h := I.steady s _ h (steady_modSlot_of_frame s k _ fun _ => ⟨rfl, rfl, rfl⟩)
  tminReached := I.tminReached
  holdOrOpen := I.holdOrOpen
  takePlanned s h hs := I.takePlanned _ (I.steady s _ h (.of_kept rfl)) hs
  endGrace s h := I.steady s _ h ((steady_clearPlanned s).trans (.of_kept rfl))
  drawNext := I.drawNext
  closeScan := I.closeScan
  panelReady := I.panelReady
  completeWake := I.completeWake
  writeModeWord := I.writeModeWord
  writeRegion := I.writeRegion
  requestInput := I.requestInput
  requestPanel := I.requestPanel
  requestCommit := I.requestCommit
  requestPin := I.requestPin
  requestRelease := I.requestRelease
  requestRealign := I.requestRealign
  requestReset := I.requestReset
  requestRecord s _ h := I.steady s _ h (.of_kept rfl)
  requestTestOn := I.requestTestOn
  requestTestOff := I.requestTestOff

end SteadyInvariant

/-! ## The agreement of the scan-out -/

theorem even_modSlot (s : State) (k : Fin 5) (f : Slot → Slot) : Even s (s.modSlot k f) := { Even.refl s with }

theorem even_freeSlot (s : State) (k : Fin 5) : Even s (s.freeSlot k) := by
  unfold State.freeSlot
  dsimp only
  refine (steady_reevalRepeat _).toEven.after ?_
  split
  · exact (even_modSlot s k _).trans { Even.refl _ with }
  · exact even_modSlot s k _

theorem even_takeSlot {s t : State} {k : Fin 5} (h : s.takeSlot = some (k, t)) : Even s t := by
  rcases takeSlot_cases s t k h with ⟨_, rfl⟩ | ⟨_, rfl⟩
  · exact .refl _
  · exact (even_freeSlot _ k).after (steady_recordIfUnrecorded s k).toEven

theorem even_installFrame (s : State) (k : Fin 5) (r : Slot) : Even s (s.installFrame k r) := { Even.refl s with }

/-- An accepted FS as far as its slot: the relay re-evaluated, the stamps and the mode taken, the frame counted. -/
def State.acceptFrame (s : State) (w : LaneWord) (width height : Nat) : State :=
  let s1 := State.reevaluate { s with relay.refused := false }
  let s2 := { s1 with relay.lastAccepted := some s.relayTime, pacing.holdReference := some s.relayTime }
  ((s2.takeMode (frameModeFor s2.lowlag s2.lra.preface.lowlag)).takeArrival width height).countFrame w

/-- The mode an accepted FS gives its frame. -/
def State.frameMode (s : State) : FrameMode :=
  frameModeFor (State.reevaluate { s with relay.refused := false }).lowlag
    (State.reevaluate { s with relay.refused := false }).lra.preface.lowlag

theorem steady_acceptFrame (s : State) (w : LaneWord) (width height : Nat) : Steady s (s.acceptFrame w width height) := by
  have h1 : Steady s (State.reevaluate { s with relay.refused := false }) := (steady_reevaluate _).after (.of_kept rfl)
  exact (steady_countFrame _ w).after ((steady_takeArrival _ width height).after
    ((steady_takeMode _ _).after (h1.trans (.of_kept rfl))))

/-- An accepted FS that finds a slot: its frame goes there, and a hold ends. -/
theorem openFrame_cases {s t : State} {w : LaneWord} {width height : Nat} (h : s.openFrame w width height = some t) :
    ∃ k u, (s.acceptFrame w width height).countDownPins.takeSlot = some (k, u) ∧
      t = (u.installFrame k ((s.acceptFrame w width height).openedSlot w s.frameMode width height)).exitHold .fs := by
  unfold State.openFrame at h
  dsimp only at h
  split at h
  · rename_i k u hu
    exact ⟨k, u, hu, (Option.some.inj h).symm⟩
  · cases h

theorem scanAgrees_openFrame (s : State) (w : LaneWord) (width height : Nat) (t : State) (h : s.ScanAgrees)
    (ht : s.openFrame w width height = some t) : t.ScanAgrees := by
  obtain ⟨k, u, hu, rfl⟩ := openFrame_cases ht
  refine scanAgrees_exitHold (scanAgrees_of_even h ?_) .fs
  exact (even_installFrame u k _).after ((even_takeSlot hu).after
    ((even_countDownPins _).after (steady_acceptFrame s w width height).toEven))

theorem scanAgrees_openWaiting {s : State} (h : s.ScanAgrees) (hs : s.relay.state ≠ .idle) :
    s.openWaiting.ScanAgrees := by
  have hr := h.running_of_state hs
  unfold State.openWaiting
  split
  · dsimp only
    split
    · exact scanAgrees_holdOrOpen (scanAgrees_congr h rfl rfl) ⟨hr.panel, hr.state⟩
    · exact scanAgrees_congr h rfl rfl
  · exact h

theorem scanAgrees_takePlanned {s : State} (h : s.ScanAgrees) (hs : s.relay.state ≠ .idle) :
    s.takePlanned.ScanAgrees := by
  unfold State.takePlanned
  split
  · exact scanAgrees_enterHold h (mayHold_ready ‹_›)
  · split
    · exact scanAgrees_openScan (h.running_of_state hs)
    · exact scanAgrees_congr h rfl rfl

theorem scanAgrees_drawNext {s : State} (h : s.ScanAgrees) : s.drawNext.ScanAgrees :=
  scanAgrees_of_even (s := { s with link := s.drawNext.link }) (scanAgrees_congr h rfl rfl) (steady_drawNext s).toEven

theorem scanAgrees_triggerExit {s : State} (h : s.ScanAgrees) (t : HoldTrigger) : (s.triggerExit t).ScanAgrees := by
  unfold State.triggerExit
  split
  · exact scanAgrees_settle (scanAgrees_exitHold h t) s
  · exact h

/-- The first panel contract takes the relay out of IDLE. -/
theorem running_leaveIdle (s : State) (c : PanelContract) (h : s.relay.waitingPanel = some c) :
    s.installPanel.reevaluate.Running := by
  have he := steady_reevaluate s.installPanel
  have hp : s.installPanel.reevaluate.relay.panel ≠ none := by
    rw [he.panel, (even_installPanel s).panel, takePanel_panel, h]
    exact Option.some_ne_none c
  refine ⟨hp, fun hi => hp ?_⟩
  rw [he.panel]
  exact (properRelayState_idle _).mp ((relay_state_reevaluate _).1.symm.trans hi)

theorem scanAgrees_leaveIdle (s : State) (c : PanelContract) (h : s.relay.waitingPanel = some c) :
    s.leaveIdle.ScanAgrees := by
  have hr := running_leaveIdle s c h
  unfold State.leaveIdle
  dsimp only
  refine scanAgrees_openScan ?_
  exact ⟨hr.panel, hr.state⟩

theorem scanAgrees_requestPanel (s : State) (h : s.ScanAgrees) : s.requestPanel.1.ScanAgrees := by
  unfold State.requestPanel
  split
  · exact h
  · split
    · exact h
    · have hw : ∀ f, State.ScanAgrees { s with relay.waitingPanel := f } := fun f => ⟨h.scan, h.idle, h.quiet⟩
      dsimp only
      split
      · exact scanAgrees_settle (scanAgrees_leaveIdle _ s.peu.pendingPanel rfl) s
      · exact scanAgrees_triggerExit (hw _) .panelApply

theorem scanAgrees_requestCommit (s : State) (h : s.ScanAgrees) : s.requestCommit.1.ScanAgrees := by
  unfold State.requestCommit
  dsimp only
  refine scanAgrees_triggerExit ?_ .commit
  exact scanAgrees_congr h rfl rfl

theorem scanAgrees_requestPin (s : State) (p : Port) (h : s.ScanAgrees) : (s.requestPin p).1.ScanAgrees := by
  unfold State.requestPin
  split
  · exact h
  · split
    · exact h
    · split
      · exact h
      · exact scanAgrees_congr h rfl rfl

theorem scanAgrees_requestRelease (s : State) (p : Port) (h : s.ScanAgrees) : (s.requestRelease p).1.ScanAgrees := by
  unfold State.requestRelease
  split
  · exact scanAgrees_of_even h (even_dropPin s p)
  · exact h

/-! ### The relay reset -/

/-- A relay reset leaves the scan-out without a scan, READY unless it was QUIET. -/
theorem scanAgrees_abortScanOut (s : State) (h : s.ScanAgrees) : s.abortScanOut.ScanAgrees := by
  unfold State.abortScanOut
  split
  · exact h
  · exact h
  · rename_i hs
    have hr : s.Running := h.running_of_scanOut (by rw [hs]; decide)
    split
    · exact scanAgrees_endScan _ _ ⟨hr.panel, hr.state⟩
    · exact h
  · rename_i hs
    have hr : s.Running := h.running_of_scanOut (by rw [hs]; decide)
    refine scanAgrees_of_even ?_ (steady_wakeMemory _).toEven
    exact scanAgrees_of_unscanned (s := s) ⟨hr.panel, hr.state⟩ (h.no_scan (by rw [hs]; decide)) rfl nofun nofun
  · rename_i hs
    have hr : s.Running := h.running_of_scanOut (by rw [hs]; decide)
    exact scanAgrees_of_unscanned (s := s) ⟨hr.panel, hr.state⟩ (h.no_scan (by rw [hs]; decide)) rfl nofun nofun

theorem even_resetStore (s : State) : Even s s.resetStore := (steady_dropCaptures _).toEven.after { Even.refl s with }
theorem steady_resetLra (s : State) : Steady s s.resetLra := .of_kept rfl
theorem steady_resetPacing (s : State) : Steady s s.resetPacing := { Steady.refl s with waiting := fun _ => rfl }
theorem steady_resetRecords (s : State) : Steady s s.resetRecords := .of_kept rfl

/-- The relay controller's reset takes the waiting panel contract, and re-evaluates. -/
theorem steady_resetRelay (s : State) : Steady { s with relay.waitingPanel := none } s.resetRelay :=
  (steady_reevaluate _).after (.of_kept rfl)

theorem scanAgrees_resetRelay (s : State) (h : s.ScanAgrees) : s.resetRelay.ScanAgrees :=
  scanAgrees_of_even (s := { s with relay.waitingPanel := none }) ⟨h.scan, h.idle, h.quiet⟩ (steady_resetRelay s).toEven

theorem scanAgrees_requestReset (s : State) (h : s.ScanAgrees) : s.requestReset.1.ScanAgrees := by
  have h1 : s.abortScanOut.resetStore.resetLra.resetPacing.resetRecords.ScanAgrees :=
    scanAgrees_of_even (scanAgrees_abortScanOut s h) ((steady_resetRecords _).toEven.after
      ((steady_resetPacing _).toEven.after ((steady_resetLra _).toEven.after (even_resetStore _))))
  have h2 : s.abortScanOut.resetStore.resetLra.resetPacing.resetRecords.resetRelay.ScanAgrees :=
    scanAgrees_resetRelay _ h1
  unfold State.requestReset
  dsimp only
  refine scanAgrees_settle ?_ s
  unfold State.deadlineAtReady
  split
  · rename_i hd
    exact scanAgrees_holdOrOpen h2 (h2.running_of_scanOut (by rw [hd.2.1]; decide))
  · exact h2

theorem scanAgrees_writeRegion (s : State) (p : Port) (r : Region) (off : Nat) (ps : List (Byte × Byte))
    (h : s.ScanAgrees) : (s.writeRegion p r off ps).ScanAgrees := by
  cases r <;> exact scanAgrees_congr h rfl rfl

theorem scanAgrees_invariant : SteadyInvariant State.ScanAgrees where
  steady _ _ h k := scanAgrees_of_even h k.toEven
  clock _ _ _ h := scanAgrees_congr h rfl rfl
  pop _ _ h := scanAgrees_congr h rfl rfl
  panelReady _ h := scanAgrees_congr h rfl rfl
  powerOn straps _ _ := scanAgrees_congr (powerOn_scanAgrees straps) rfl rfl
  setPort _ _ _ h := scanAgrees_congr h rfl rfl
  raise _ _ _ h := scanAgrees_congr h rfl rfl
  settle _ before h := scanAgrees_settle h before
  openFrame := scanAgrees_openFrame
  tminReached _ h hs := scanAgrees_openWaiting (scanAgrees_congr h rfl rfl) hs
  holdOrOpen _ h hs _ := scanAgrees_holdOrOpen h (h.running_of_state hs)
  takePlanned _ h hs := scanAgrees_takePlanned h hs
  drawNext _ := scanAgrees_drawNext
  closeScan _ c h hc := scanAgrees_closeScan h c hc
  completeWake _ ending h hw :=
    scanAgrees_completeWake ending (h.running_of_scanOut (by rw [hw]; decide)) (h.no_scan (by rw [hw]; decide))
  setModeWord _ _ h := scanAgrees_congr h rfl rfl
  writeRegion := scanAgrees_writeRegion
  requestPanel := scanAgrees_requestPanel
  requestCommit := scanAgrees_requestCommit
  requestPin := scanAgrees_requestPin
  requestRelease := scanAgrees_requestRelease
  requestReset := scanAgrees_requestReset

/-- Settles O59: every operation is even, or leaves a running relay with its scan-out out of QUIET. -/
theorem scanOutStaysInAgreement : Obligations.ScanOutStaysInAgreement := scanAgrees_invariant.invariant.step

end Sys2Proof.Machine
end

section
/-! That the pin records and the pin holders agree: what a pin's grant, its end, a relayout and a new frame do to them. -/
namespace Sys2Proof.Machine

/-! ## The order the part chooses -/

theorem insertFree_perm {α : Type} (n : Nat) (x : α) (ys : List α) : (insertFree n x ys).1.Perm (x :: ys) := by
  induction ys generalizing n with
  | nil => exact .refl _
  | cons y ys ih =>
    unfold insertFree
    split
    · exact .refl _
    · exact ((ih (n + 1)).cons y).trans (.swap x y ys)

/-- The part chooses an order and nothing else. -/
theorem freeOrder_perm {α : Type} (n : Nat) (xs : List α) : (freeOrder n xs).1.Perm xs := by
  induction xs with
  | nil => exact .refl _
  | cons x xs ih => exact (insertFree_perm _ x _).trans (ih.cons x)

/-! ## Choosing among slots -/

theorem youngest_mem (s : State) (ks : List (Fin 5)) (k : Fin 5) (h : s.youngest ks = some k) : k ∈ ks := by
  induction ks with
  | nil => cases h
  | cons j ks ih =>
    unfold State.youngest at h
    split at h
    · exact List.mem_cons.mpr (.inl (Option.some.inj h).symm)
    · rename_i i hi
      split at h
      · exact List.mem_cons_of_mem _ (ih (hi.trans h))
      · exact List.mem_cons.mpr (.inl (Option.some.inj h).symm)

theorem oldest_mem (s : State) (ks : List (Fin 5)) (k : Fin 5) (h : s.oldest ks = some k) : k ∈ ks := by
  induction ks with
  | nil => cases h
  | cons j ks ih =>
    unfold State.oldest at h
    split at h
    · exact List.mem_cons.mpr (.inl (Option.some.inj h).symm)
    · rename_i i hi
      split at h
      · exact List.mem_cons_of_mem _ (ih (hi.trans h))
      · exact List.mem_cons.mpr (.inl (Option.some.inj h).symm)

theorem newestComplete_complete (s : State) (k : Fin 5) (h : s.newestComplete = some k) : (s.slot k).state = .complete := by
  have hk := (List.mem_filter.mp (youngest_mem s _ k h)).2
  exact of_decide_eq_true hk

theorem lowestFree_free (s : State) (k : Fin 5) (h : s.lowestFree = some k) : (s.slot k).state = .free :=
  of_decide_eq_true (List.find?_some (p := fun j => decide ((s.slot j).state = .free)) h)

/-- Reclaim chooses no slot that a pin holds. -/
theorem reclaimChoice_unpinned (s : State) (k : Fin 5) (h : s.reclaimChoice = some k) : (s.slot k).unpinned := by
  have hk : k ∈ s.eligible := by
    unfold State.reclaimChoice at h
    split at h
    · rename_i j hj
      obtain rfl := Option.some.inj h
      exact (List.mem_filter.mp (oldest_mem s _ j hj)).1
    · exact oldest_mem s _ k h
  have hb := (List.mem_filter.mp hk).2
  simp only [State.blocked, Bool.and_eq_true, Bool.not_eq_true', Bool.or_eq_false_iff] at hb
  exact (unpinned_iff _).mpr (by rw [hb.2.1.2, hb.2.2]; rfl)

/-! ## The agreement apart from the counts -/

/-- `PinsAgree` but for the counts, which an accepted FS brings down before it ends the pins that reach 0. -/
structure State.PinsLinked (s : State) : Prop where
  holders : ∀ (p : Port) (k : Fin 5),
    (s.slot k).pinHolders.get p = true ↔ ∃ x, s.store.pins.get p = some x ∧ x.slot = k
  live : ∀ (p : Port) (x : Pin), s.store.pins.get p = some x →
    (s.slot x.slot).state ≠ .free ∧ (s.slot x.slot).arrival = x.arrival
  limit : s.pinsHeld ≤ s.pinLimit

theorem State.PinsAgree.linked {s : State} (h : s.PinsAgree) : s.PinsLinked := ⟨h.holders, h.live, h.limit⟩

theorem State.PinsLinked.agree {s : State} (h : s.PinsLinked)
    (hc : ∀ (p : Port) (x : Pin), s.store.pins.get p = some x → 1 ≤ x.remaining ∧ x.remaining ≤ 255) : s.PinsAgree :=
  ⟨h.holders, h.live, hc, h.limit⟩

theorem pinPorts_congr {s t : State} (h : t.store.pins = s.store.pins) (f : Pin → Bool) : t.pinPorts f = s.pinPorts f := by
  unfold State.pinPorts
  rw [h]

theorem pinsHeld_congr {s t : State} (h : t.store.pins = s.store.pins) : t.pinsHeld = s.pinsHeld :=
  congrArg List.length (pinPorts_congr h _)

/-- The number of pins held, port by port. -/
theorem pinsHeld_eq (s : State) :
    s.pinsHeld = (s.store.pins.get .system).isSome.toNat + (s.store.pins.get .link).isSome.toNat := by
  unfold State.pinsHeld State.pinPorts
  cases hs : s.store.pins.get .system <;> cases hl : s.store.pins.get .link <;> simp [hs, hl]

theorem pinsLinked_of_steady {s t : State} (h : s.PinsLinked) (k : Steady s t) : t.PinsLinked where
  holders p j := by rw [k.holders, k.pins]; exact h.holders p j
  live p x hx := by
    rw [k.pins] at hx
    obtain ⟨hs, ha⟩ := h.live p x hx
    obtain ⟨ht, hb⟩ := k.live x.slot p ((h.holders p x.slot).mpr ⟨x, hx, rfl⟩) hs
    exact ⟨ht, hb.trans ha⟩
  limit := by
    rw [pinsHeld_congr k.pins, State.pinLimit, k.usable]
    exact h.limit

theorem pinsAgree_of_steady {s t : State} (h : s.PinsAgree) (k : Steady s t) : t.PinsAgree :=
  (pinsLinked_of_steady h.linked k).agree fun p x hx => h.counts p x (by rw [← k.pins]; exact hx)

theorem Steady.pinsAgree {s t : State} (k : Steady s t) (h : s.PinsAgree) : t.PinsAgree := pinsAgree_of_steady h k

/-- The agreement rests on the frame store alone. -/
theorem pinsAgree_congr {s t : State} (h : s.PinsAgree) (hs : t.store = s.store) : t.PinsAgree := by
  have hslot : ∀ k, t.slot k = s.slot k := fun k => by rw [State.slot, hs]; rfl
  have hpins : t.store.pins = s.store.pins := by rw [hs]
  exact
    { holders := fun p k => by rw [hslot, hpins]; exact h.holders p k
      live := fun p x hx => by rw [hslot]; exact h.live p x (by rw [← hpins]; exact hx)
      counts := fun p x hx => h.counts p x (by rw [← hpins]; exact hx)
      limit := by rw [pinsHeld_congr hpins, State.pinLimit, hs]; exact h.limit }

/-- With no pin held and no slot pinned there is nothing to disagree. -/
theorem pinsAgree_of_none {s : State} (hp : ∀ p, s.store.pins.get p = none) (hs : ∀ k, (s.slot k).unpinned) :
    s.PinsAgree where
  holders p k := by simp [hs k p, hp p]
  live p x hx := by rw [hp] at hx; cases hx
  counts p x hx := by rw [hp] at hx; cases hx
  limit := by rw [pinsHeld_eq, hp, hp]; exact Nat.zero_le _

/-- A FREE slot is pinned by no port. -/
theorem State.PinsAgree.unpinned_of_free {s : State} (h : s.PinsAgree) {k : Fin 5} (hk : (s.slot k).state = .free) :
    (s.slot k).unpinned := by
  intro p
  rw [← Bool.not_eq_true, h.holders]
  rintro ⟨x, hx, rfl⟩
  exact (h.live p x hx).1 hk

/-! ## The end of a pin (R146, R147) -/

theorem dropPin_of_none {s : State} {p : Port} (h : s.store.pins.get p = none) : s.dropPin p = s := by
  unfold State.dropPin
  rw [h]

theorem dropPin_of_some {s : State} {p : Port} {x : Pin} (h : s.store.pins.get p = some x) :
    s.dropPin p = { s.setPinHolder x.slot p false with store.pins := s.store.pins.set p none } := by
  unfold State.dropPin
  rw [h]
  rfl

/-- The end of a pin empties its port's record and leaves the other's. -/
theorem pins_dropPin (s : State) (p q : Port) :
    (s.dropPin p).store.pins.get q = if q = p then none else s.store.pins.get q := by
  cases h : s.store.pins.get p with
  | none =>
    rw [dropPin_of_none h]
    split
    · rename_i hq; rw [hq, h]
    · rfl
  | some x =>
    rw [dropPin_of_some h]
    split
    · rename_i hq; rw [hq]; exact PerPort.get_set_same _ _ _
    · rename_i hq; exact PerPort.get_set_other _ _ _ _ hq

/-- What the end of a pin leaves of a slot: everything but the port's mark on the pinned slot. -/
theorem slot_dropPin (s : State) (p : Port) (k : Fin 5) :
    ((s.dropPin p).slot k).state = (s.slot k).state ∧ ((s.dropPin p).slot k).arrival = (s.slot k).arrival ∧
      ((s.dropPin p).slot k).pinHolders =
        if (s.store.pins.get p).any (fun x => decide (x.slot = k)) then (s.slot k).pinHolders.set p false
        else (s.slot k).pinHolders := by
  cases h : s.store.pins.get p with
  | none => rw [dropPin_of_none h]; exact ⟨rfl, rfl, rfl⟩
  | some x =>
    rw [dropPin_of_some h]
    have hslot : ∀ u, State.slot { s.setPinHolder x.slot p false with store.pins := u } k =
        (s.setPinHolder x.slot p false).slot k := fun _ => rfl
    rw [hslot, State.setPinHolder]
    by_cases hk : k = x.slot
    · subst hk
      rw [slot_modSlot_same]
      exact ⟨rfl, rfl, by simp⟩
    · rw [slot_modSlot_other _ _ _ _ hk]
      exact ⟨rfl, rfl, by simp [Ne.symm hk]⟩

theorem usable_dropPin (s : State) (p : Port) : (s.dropPin p).store.usable = s.store.usable := by
  unfold State.dropPin
  split <;> rfl

theorem pinsLinked_dropPin {s : State} (h : s.PinsLinked) (p : Port) : (s.dropPin p).PinsLinked where
  holders q k := by
    rw [(slot_dropPin s p k).2.2, pins_dropPin]
    by_cases hq : q = p
    · subst hq
      cases hx : s.store.pins.get q with
      | none =>
        have := h.holders q k
        simp only [hx] at this
        simpa using this
      | some x =>
        by_cases hk : x.slot = k
        · simp [hk]
        · have := h.holders q k
          simp only [hx] at this
          simpa [hk] using this
    · rw [if_neg hq, ← h.holders q k]
      split
      · rw [PerPort.get_set_other _ _ _ _ hq]
      · rfl
  live q x hx := by
    rw [pins_dropPin] at hx
    split at hx
    · cases hx
    · obtain ⟨hs, ha, _⟩ := slot_dropPin s p x.slot
      rw [hs, ha]
      exact h.live q x hx
  limit := by
    have hlim := h.limit
    have hle : (s.dropPin p).pinsHeld ≤ s.pinsHeld := by
      rw [pinsHeld_eq, pinsHeld_eq, pins_dropPin, pins_dropPin]
      cases p <;> simp
    rw [State.pinLimit, usable_dropPin]
    exact hle.trans hlim

theorem pinsAgree_dropPin {s : State} (h : s.PinsAgree) (p : Port) : (s.dropPin p).PinsAgree :=
  (pinsLinked_dropPin h.linked p).agree fun q x hx => by
    rw [pins_dropPin] at hx
    split at hx
    · cases hx
    · exact h.counts q x hx

/-- The expiry of pins, port after port, empties the records of those ports. -/
theorem pins_expirePins (reason : Nat) (ps : List Port) (s : State) (q : Port) :
    (ps.foldl (State.expirePin reason) s).store.pins.get q = if q ∈ ps then none else s.store.pins.get q := by
  induction ps generalizing s with
  | nil => rfl
  | cons p ps ih =>
    have hp : (s.expirePin reason p).store.pins.get q = if q = p then none else s.store.pins.get q := pins_dropPin s p q
    rw [List.foldl_cons, ih, hp]
    by_cases h1 : q ∈ ps <;> by_cases h2 : q = p <;> simp [h1, h2]

theorem pinsLinked_expirePins (reason : Nat) (ps : List Port) (s : State) (h : s.PinsLinked) :
    (ps.foldl (State.expirePin reason) s).PinsLinked := by
  induction ps generalizing s with
  | nil => exact h
  | cons p ps ih =>
    have hd := pinsLinked_dropPin h p
    exact ih _ ⟨hd.holders, hd.live, hd.limit⟩

theorem pins_eachFree_expire (reason : Nat) (ps : List Port) (s : State) (q : Port) :
    (s.eachFree ps (State.expirePin reason)).store.pins.get q = if q ∈ ps then none else s.store.pins.get q := by
  rw [State.eachFree, pins_expirePins]
  exact if_congr (freeOrder_perm s.choices ps).mem_iff rfl rfl

theorem mem_pinPorts (s : State) (f : Pin → Bool) (p : Port) :
    p ∈ s.pinPorts f ↔ ∃ x, s.store.pins.get p = some x ∧ f x = true := by
  unfold State.pinPorts
  cases p <;> simp [Option.getD_eq_iff, Option.map_eq_some_iff]

/-! ## A new frame (R31, R33, R146) -/

/-- At an accepted FS the pins that reach 0 end, so that the others keep counts from 1. -/
theorem pinsAgree_countDownPins {s : State} (h : s.PinsAgree) : s.countDownPins.PinsAgree := by
  have hget : ∀ p, (s.store.pins.map countDownPin).get p = countDownPin (s.store.pins.get p) := PerPort.get_map _ _
  have hdown : State.PinsLinked { s with store.pins := s.store.pins.map countDownPin } :=
    { holders := fun p k => by
        refine (h.holders p k).trans ?_
        show _ ↔ ∃ x, (s.store.pins.map countDownPin).get p = some x ∧ x.slot = k
        rw [hget]
        cases s.store.pins.get p <;> simp [countDownPin]
      live := fun p x hx => by
        have hx : (s.store.pins.map countDownPin).get p = some x := hx
        rw [hget] at hx
        obtain ⟨y, hy, rfl⟩ := Option.map_eq_some_iff.mp hx
        exact h.live p y hy
      limit := by
        refine Nat.le_trans (Nat.le_of_eq ?_) h.limit
        rw [pinsHeld_eq, pinsHeld_eq]
        show ((s.store.pins.map countDownPin).get .system).isSome.toNat +
          ((s.store.pins.map countDownPin).get .link).isSome.toNat = _
        rw [hget, hget, countDownPin, countDownPin, Option.isSome_map, Option.isSome_map] }
  have hlink : s.countDownPins.PinsLinked :=
    pinsLinked_expirePins 1 _ _ ⟨hdown.holders, hdown.live, hdown.limit⟩
  refine hlink.agree fun p x hx => ?_
  unfold State.countDownPins at hx
  dsimp only at hx
  rw [pins_eachFree_expire] at hx
  split at hx
  · cases hx
  · rename_i hmem
    rw [mem_pinPorts] at hmem
    have hx' := hx
    rw [hget] at hx'
    obtain ⟨y, hy, rfl⟩ := Option.map_eq_some_iff.mp hx'
    have hne : y.remaining - 1 ≠ 0 := fun hz => hmem ⟨_, hx, decide_eq_true hz⟩
    have := h.counts p y hy
    dsimp only
    omega

/-- A slot taken for a new frame is FREE, and the pins agree. -/
theorem pinsAgree_takeSlot {s t : State} {k : Fin 5} (h : s.PinsAgree) (ht : s.takeSlot = some (k, t)) :
    t.PinsAgree ∧ (t.slot k).unpinned := by
  rcases takeSlot_cases s t k ht with ⟨hk, rfl⟩ | ⟨hk, rfl⟩
  · exact ⟨h, h.unpinned_of_free (lowestFree_free _ k hk)⟩
  · have hr := steady_recordIfUnrecorded s k
    have hf := steady_freeSlot _ k (hr.unpinned (reclaimChoice_unpinned s k hk))
    exact ⟨pinsAgree_of_steady h (hr.trans hf), (hr.trans hf).unpinned (reclaimChoice_unpinned s k hk)⟩

/-- A frame put into a slot that no pin holds. -/
theorem steady_installFrame (s : State) (k : Fin 5) (r : Slot) (hk : (s.slot k).unpinned) (hr : r.unpinned) :
    Steady s (s.installFrame k r) := by
  have hslot : ∀ j, (s.installFrame k r).slot j = (s.modSlot k fun _ => r).slot j := fun _ => rfl
  refine { even_installFrame s k r with layout := rfl, holders := fun j => ?_, live := fun j p hp hs => ?_, expired := fun _ => rfl }
  · rw [hslot]
    by_cases hj : j = k
    · subst hj
      rw [slot_modSlot_same]
      exact congrArg₂ PerPort.mk ((hr .system).trans (hk .system).symm) ((hr .link).trans (hk .link).symm)
    · rw [slot_modSlot_other _ _ _ _ hj]
  · have hj : j ≠ k := fun e => by rw [e, hk p] at hp; cases hp
    rw [hslot, slot_modSlot_other _ _ _ _ hj]
    exact ⟨hs, rfl⟩

theorem openedSlot_unpinned (s : State) (w : LaneWord) (m : FrameMode) (width height : Nat) :
    (s.openedSlot w m width height).unpinned := fun p => by cases p <;> rfl

/-! ## A relayout and a scan open -/

/-- A relayout leaves no pin and no frame. -/
theorem relayout_store (s : State) (c : PanelContract) :
    (∀ k, (s.relayout c).slot k = Slot.reset) ∧ (∀ p, (s.relayout c).store.pins.get p = none) ∧
      (s.relayout c).store.usable = usableFor c := by
  refine ⟨fun k => Vector.getElem_replicate k.isLt, fun p => ?_, rfl⟩
  have hd := (steady_dropCaptures (s.cutAtBoundary.emptyStaging.eachFree
    (s.cutAtBoundary.emptyStaging.pinPorts fun _ => true) (State.expirePin 2))).pins
  show s.cutAtBoundary.emptyStaging.dropPinsRelayout.store.pins.get p = none
  rw [State.dropPinsRelayout, hd, pins_eachFree_expire]
  split
  · rfl
  · rename_i hp
    rw [mem_pinPorts] at hp
    exact Option.eq_none_iff_forall_ne_some.mpr fun x hx => hp ⟨x, hx, rfl⟩

theorem reset_unpinned : Slot.reset.unpinned := fun p => by cases p <;> rfl

theorem pinsAgree_relayout (s : State) (c : PanelContract) : (s.relayout c).PinsAgree := by
  obtain ⟨hslot, hpins, _⟩ := relayout_store s c
  exact pinsAgree_of_none hpins fun k => by rw [hslot]; exact reset_unpinned

theorem pinsAgree_installPanel {s : State} (h : s.PinsAgree) : s.installPanel.PinsAgree := by
  unfold State.installPanel
  split
  · exact h
  · dsimp only
    split
    · exact pinsAgree_relayout _ _
    · exact pinsAgree_congr h rfl

theorem pinsAgree_openAs {s : State} (h : s.PinsAgree) (kind : ScanKind) (k fallback : Option (Fin 5)) :
    (s.openAs kind k fallback).PinsAgree := by
  have h1 : ((s.recordOpen kind).openKind kind k).PinsAgree :=
    pinsAgree_of_steady (s := s.recordOpen kind) (pinsAgree_congr h rfl) (steady_openKind _ kind k)
  have h2 := (steady_installOverlay _ kind).pinsAgree (pinsAgree_congr h1 rfl)
  obtain ⟨u, pixels, hu, _, e⟩ := beginScan_line _ kind k fallback
  rw [State.openAs, e]
  exact pinsAgree_congr (hu.pinsAgree (pinsAgree_congr h2 rfl)) rfl

theorem pinsAgree_openScan {s : State} (h : s.PinsAgree) : s.openScan.PinsAgree :=
  pinsAgree_openAs (pinsAgree_installPanel h) _ _ _

theorem pinsAgree_holdOrOpen {s : State} (h : s.PinsAgree) : s.holdOrOpen.PinsAgree := by
  unfold State.holdOrOpen
  split
  · exact pinsAgree_congr h rfl
  · exact pinsAgree_openScan h

theorem pinsAgree_completeWake {s : State} (h : s.PinsAgree) (ending : WakeEnding) :
    (s.completeWake ending).PinsAgree := by
  rcases completeWake_cases s ending with ⟨_, e⟩ | ⟨_, e⟩
  · rw [e]
    refine pinsAgree_openScan ?_
    exact pinsAgree_congr h rfl
  · rw [e]
    exact pinsAgree_congr h rfl

theorem pinsAgree_wakeLate {s : State} (h : s.PinsAgree) : s.wakeLate.PinsAgree := by
  unfold State.wakeLate
  split
  · exact pinsAgree_completeWake h _
  · refine pinsAgree_completeWake ?_ _
    exact pinsAgree_congr h rfl

theorem pinsAgree_exitHold {s : State} (h : s.PinsAgree) (t : HoldTrigger) : (s.exitHold t).PinsAgree := by
  by_cases hh : s.sco.state = .holding
  · have hw : (s.beginWake t).wakeMemory.PinsAgree :=
      pinsAgree_of_steady (s := s.beginWake t) (pinsAgree_congr h rfl) (steady_wakeMemory _)
    rw [exitHold_of_holding s t hh]
    split
    · exact pinsAgree_completeWake hw _
    · split
      · exact pinsAgree_wakeLate hw
      · exact hw
  · rw [exitHold_of_not_holding s t hh]
    exact h

theorem pinsAgree_settle {s : State} (h : s.PinsAgree) (before : State) : (s.settle before).PinsAgree := by
  have h1 : (s.respan before).PinsAgree := by
    unfold State.respan
    split
    · exact pinsAgree_holdOrOpen h
    · exact h
  have h2 : (s.respan before).evaluateStart.PinsAgree := by
    unfold State.evaluateStart
    split
    · exact pinsAgree_openScan h1
    · exact h1
  exact pinsAgree_of_steady h2 (steady_settleMemory _)

/-! ## Each command -/

theorem pinsAgree_openFrame (s : State) (w : LaneWord) (width height : Nat) (t : State) (h : s.PinsAgree)
    (ht : s.openFrame w width height = some t) : t.PinsAgree := by
  obtain ⟨k, u, hu, rfl⟩ := openFrame_cases ht
  have h1 := pinsAgree_countDownPins (pinsAgree_of_steady h (steady_acceptFrame s w width height))
  obtain ⟨h2, hk⟩ := pinsAgree_takeSlot h1 hu
  exact pinsAgree_exitHold (pinsAgree_of_steady h2 (steady_installFrame u k _ hk (openedSlot_unpinned _ w _ _ _))) .fs

theorem pinsAgree_openWaiting {s : State} (h : s.PinsAgree) : s.openWaiting.PinsAgree := by
  unfold State.openWaiting
  split
  · dsimp only
    split
    · refine pinsAgree_holdOrOpen ?_
      exact pinsAgree_congr h rfl
    · exact pinsAgree_congr h rfl
  · exact h

theorem pinsAgree_takePlanned {s : State} (h : s.PinsAgree) : s.takePlanned.PinsAgree := by
  unfold State.takePlanned
  split
  · exact pinsAgree_congr h rfl
  · split
    · exact pinsAgree_openScan h
    · exact pinsAgree_congr h rfl

theorem pinsAgree_endScan {s : State} (h : s.PinsAgree) (c : Scan) (ending : ScanEnding) :
    (s.endScan c ending).PinsAgree :=
  (steady_endScan s c ending).pinsAgree (pinsAgree_congr h rfl)

theorem pinsAgree_closeScan {s : State} (h : s.PinsAgree) (c : Scan) : (s.closeScan c).PinsAgree := by
  have h1 : (s.send .scanClose).PinsAgree := pinsAgree_congr h rfl
  rw [closeScan_eq]
  exact pinsAgree_congr (pinsAgree_endScan (pinsAgree_of_steady h1 (steady_reportClose _ c)) c .closed) rfl

theorem pinsAgree_triggerExit {s : State} (h : s.PinsAgree) (t : HoldTrigger) : (s.triggerExit t).PinsAgree := by
  unfold State.triggerExit
  split
  · exact pinsAgree_settle (pinsAgree_exitHold h t) s
  · exact h

theorem pinsAgree_leaveIdle {s : State} (h : s.PinsAgree) : s.leaveIdle.PinsAgree := by
  unfold State.leaveIdle
  refine pinsAgree_openScan ?_
  exact pinsAgree_congr (pinsAgree_of_steady (pinsAgree_installPanel h) (steady_reevaluate _)) rfl

theorem pinsAgree_requestPanel (s : State) (h : s.PinsAgree) : s.requestPanel.1.PinsAgree := by
  unfold State.requestPanel
  split
  · exact h
  · split
    · exact h
    · have hw : ∀ f, State.PinsAgree { s with relay.waitingPanel := f } := fun f => pinsAgree_congr h rfl
      dsimp only
      split
      · exact pinsAgree_settle (pinsAgree_leaveIdle (hw _)) s
      · exact pinsAgree_triggerExit (hw _) .panelApply

theorem pinsAgree_requestCommit (s : State) (h : s.PinsAgree) : s.requestCommit.1.PinsAgree := by
  unfold State.requestCommit
  dsimp only
  refine pinsAgree_triggerExit ?_ .commit
  exact pinsAgree_congr h rfl

/-- A grant needs a port without a pin, a COMPLETE slot, and room under U − 3. -/
theorem pinsAgree_grantPin {s : State} (h : s.PinsAgree) (p : Port) (k : Fin 5) (hp : s.store.pins.get p = none)
    (hk : (s.slot k).state ≠ .free) (hroom : s.pinsHeld + 1 ≤ s.pinLimit) : (s.grantPin p k).PinsAgree := by
  have hpins : ∀ q, (s.grantPin p k).store.pins.get q =
      if q = p then some { slot := k, arrival := (s.slot k).arrival, remaining := s.pinStart p }
      else s.store.pins.get q := fun q => by
    show (s.store.pins.set p _).get q = _
    split
    · rename_i hq; rw [hq, PerPort.get_set_same]
    · rename_i hq; rw [PerPort.get_set_other _ _ _ _ hq]
  have hslot : ∀ j, (s.grantPin p k).slot j = (s.setPinHolder k p true).slot j := fun _ => rfl
  have hframe : ∀ j, ((s.grantPin p k).slot j).state = (s.slot j).state ∧
      ((s.grantPin p k).slot j).arrival = (s.slot j).arrival := fun j => by
    rw [hslot, State.setPinHolder]
    by_cases hj : j = k
    · rw [hj, slot_modSlot_same]; exact ⟨rfl, rfl⟩
    · rw [slot_modSlot_other _ _ _ _ hj]; exact ⟨rfl, rfl⟩
  have hhold : ∀ j q, ((s.grantPin p k).slot j).pinHolders.get q =
      if q = p ∧ j = k then true else (s.slot j).pinHolders.get q := fun j q => by
    rw [hslot, State.setPinHolder]
    by_cases hj : j = k
    · subst hj
      rw [slot_modSlot_same]
      by_cases hq : q = p
      · simp [hq]
      · simp [hq]
    · rw [slot_modSlot_other _ _ _ _ hj]
      simp [hj]
  have hheld : (s.grantPin p k).pinsHeld = s.pinsHeld + 1 := by
    rw [pinsHeld_eq, pinsHeld_eq, hpins, hpins]
    cases p
    · simp [hp]; omega
    · simp [hp]
  refine ⟨fun q j => ?_, fun q x hx => ?_, fun q x hx => ?_, ?_⟩
  · rw [hhold, hpins]
    by_cases hq : q = p
    · have hno := h.holders p j
      rw [hp] at hno
      subst hq
      by_cases hj : j = k
      · simp [hj]
      · simpa [hj, Ne.symm hj] using hno
    · simpa [hq] using h.holders q j
  · rw [hpins] at hx
    rw [(hframe _).1, (hframe _).2]
    split at hx
    · obtain rfl := Option.some.inj hx
      exact ⟨hk, rfl⟩
    · exact h.live q x hx
  · rw [hpins] at hx
    split at hx
    · obtain rfl := Option.some.inj hx
      have := (s.store.expiry.get p).isLt
      dsimp only [State.pinStart]
      omega
    · exact h.counts q x hx
  · rw [hheld]
    exact hroom

theorem pinsAgree_requestPin (s : State) (p : Port) (h : s.PinsAgree) : (s.requestPin p).1.PinsAgree := by
  unfold State.requestPin
  split
  · exact h
  · rename_i hp
    split
    · exact h
    · rename_i hroom
      split
      · exact h
      · rename_i k hk
        have hc := newestComplete_complete s k hk
        exact pinsAgree_grantPin h p k (by simpa using hp) (by rw [hc]; decide) (Nat.le_of_not_lt hroom)

theorem pinsAgree_requestRelease (s : State) (p : Port) (h : s.PinsAgree) : (s.requestRelease p).1.PinsAgree := by
  unfold State.requestRelease
  split
  · exact pinsAgree_dropPin h p
  · exact h

/-- The frame store's reset leaves every slot cleared and no pin. -/
theorem resetStore_store (s : State) : (∀ k, s.resetStore.slot k = Slot.reset) ∧
    ∀ p, s.resetStore.store.pins.get p = none := by
  have hstore : s.resetStore.store = { s.store with
      slots := Vector.replicate 5 Slot.reset, pins := { system := none, link := none } } := by
    unfold State.resetStore State.dropCaptures State.dropCapture
    split <;> split <;> rfl
  refine ⟨fun k => ?_, fun p => ?_⟩
  · rw [State.slot, hstore]
    exact Vector.getElem_replicate k.isLt
  · rw [hstore]
    cases p <;> rfl

theorem pinsAgree_requestReset (s : State) : s.requestReset.1.PinsAgree := by
  obtain ⟨hslot, hpins⟩ := resetStore_store s.abortScanOut
  have h1 : s.abortScanOut.resetStore.PinsAgree := pinsAgree_of_none hpins fun k => by rw [hslot]; exact reset_unpinned
  have h2 : s.abortScanOut.resetStore.resetLra.resetPacing.resetRecords.PinsAgree :=
    ((steady_resetRecords _).after ((steady_resetPacing _).after (steady_resetLra _))).pinsAgree h1
  have h3 : s.abortScanOut.resetStore.resetLra.resetPacing.resetRecords.resetRelay.PinsAgree :=
    (steady_resetRelay _).pinsAgree ⟨h2.holders, h2.live, h2.counts, h2.limit⟩
  unfold State.requestReset
  dsimp only
  refine pinsAgree_settle ?_ s
  unfold State.deadlineAtReady
  split
  · exact pinsAgree_holdOrOpen h3
  · exact h3

theorem pinsAgree_writeRegion (s : State) (p : Port) (r : Region) (off : Nat) (ps : List (Byte × Byte))
    (h : s.PinsAgree) : (s.writeRegion p r off ps).PinsAgree := by
  cases r with
  | pinRegion => exact ⟨h.holders, h.live, h.counts, h.limit⟩
  | eventView | modeWord | pendingInput | pendingPanel | overlayList | overlayMemory | view _ | trap _ | recordView
  | captureWindow => exact pinsAgree_congr h rfl

theorem pinsAgree_invariant : SteadyInvariant State.PinsAgree where
  steady _ _ := pinsAgree_of_steady
  clock _ _ _ h := pinsAgree_congr h rfl
  pop _ _ h := pinsAgree_congr h rfl
  panelReady _ h := pinsAgree_congr h rfl
  powerOn straps _ _ := pinsAgree_congr (powerOn_pinsAgree straps) rfl
  setPort _ _ _ h := pinsAgree_congr h rfl
  raise _ _ _ h := pinsAgree_congr h rfl
  settle _ before h := pinsAgree_settle h before
  openFrame := pinsAgree_openFrame
  tminReached _ h _ := pinsAgree_openWaiting (pinsAgree_congr h rfl)
  holdOrOpen _ h _ _ := pinsAgree_holdOrOpen h
  takePlanned _ h _ := pinsAgree_takePlanned h
  drawNext s h := pinsAgree_of_steady (s := { s with link := s.drawNext.link }) (pinsAgree_congr h rfl) (steady_drawNext s)
  closeScan _ c h _ := pinsAgree_closeScan h c
  completeWake _ ending h _ := pinsAgree_completeWake h ending
  setModeWord _ _ h := pinsAgree_congr h rfl
  writeRegion := pinsAgree_writeRegion
  requestPanel := pinsAgree_requestPanel
  requestCommit := pinsAgree_requestCommit
  requestPin := pinsAgree_requestPin
  requestRelease := pinsAgree_requestRelease
  requestReset s _ := pinsAgree_requestReset s

/-- Settles O58: every operation is steady, or grants, ends or drops pins with their slots' marks. -/
theorem pinsStayInAgreement : Obligations.PinsStayInAgreement := pinsAgree_invariant.invariant.step

end Sys2Proof.Machine
end

section
/-! What follows an event: what the memory port and the opening of a scan leave of the rest of the part. -/
namespace Sys2Proof.Machine

/-! ## The memory port outside of a hold -/

/-- The state but for what the memory port changes while the panel does not hold. -/
def State.offMemory (s : State) : State :=
  { s with
    lra.staging := []
    mpt := MemPort.reset
    peu.ports := s.peu.ports.map fun x => { x with txn := none } }

theorem offMemory_endCapture (s : State) (p : Port) (st : Status) (data : List Byte) :
    (s.endCapture p st data).offMemory = s.offMemory := by
  unfold State.endCapture PortCtl.captureResult
  cases p <;> (dsimp only; split <;> rfl)

theorem offMemory_grantCapture (s : State) (p : Port) : (s.grantCapture p).offMemory = s.offMemory := by
  unfold State.grantCapture
  split
  · rfl
  · dsimp only
    split
    · rfl
    · rw [offMemory_endCapture]; rfl

theorem offMemory_grantOnce (s : State) : s.grantOnce.offMemory = s.offMemory := by
  unfold State.grantOnce
  split
  · rfl
  · split
    · rfl
    · split
      · rfl
      · split
        · rfl
        · split
          · exact offMemory_grantCapture s _
          · rfl

theorem offMemory_arbitrateFor (n : Nat) (s : State) : (State.arbitrateFor n s).offMemory = s.offMemory := by
  induction n generalizing s with
  | zero => rfl
  | succ n ih =>
    unfold State.arbitrateFor
    split
    · rw [ih, offMemory_grantOnce]
    · rfl

theorem offMemory_dropDeadHeads (s : State) : s.dropDeadHeads.offMemory = s.offMemory := by
  unfold State.dropDeadHeads
  split <;> rfl

/-- The memory rests only while the panel holds. -/
theorem checkRest_of_not_holding (s : State) (h : s.sco.state ≠ .holding) : s.checkRest = s := by
  have hr : ¬ s.mayRest = true := by simp [State.mayRest, h]
  exact if_neg hr

theorem settleMemory_of_not_holding (s : State) (h : s.sco.state ≠ .holding) :
    s.settleMemory = s.dropDeadHeads.arbitrate := by
  have h1 : s.dropDeadHeads.sco.state ≠ .holding := by rw [(steady_dropDeadHeads s).scanOut]; exact h
  have h2 : s.dropDeadHeads.arbitrate.sco.state ≠ .holding := by
    rw [State.arbitrate, (steady_arbitrateFor 3 _).scanOut]; exact h1
  rw [State.settleMemory, checkRest_of_not_holding _ h1, checkRest_of_not_holding _ h2]

/-- While the panel does not hold, the memory port changes the staging queue, its own state and open capture
transactions. -/
theorem offMemory_settleMemory (s : State) (h : s.sco.state ≠ .holding) : s.settleMemory.offMemory = s.offMemory := by
  rw [settleMemory_of_not_holding s h, State.arbitrate, offMemory_arbitrateFor, offMemory_dropDeadHeads]

/-- Away from READY no scan opens after an event. -/
theorem settle_of_not_ready (s before : State) (h : s.sco.state ≠ .ready) : s.settle before = s.settleMemory := by
  have h1 : s.respan before = s := if_neg fun hc => h hc.2.2.1
  have h2 : s.evaluateStart = s := if_neg fun hc => h hc.2.1
  rw [State.settle, h1, h2]

/-- While a scan is in progress, an event is followed by the memory port's part alone. -/
theorem offMemory_settle_of_scanning (s before : State) (h : s.sco.state = .scanning) :
    (s.settle before).offMemory = s.offMemory := by
  rw [settle_of_not_ready s before (by rw [h]; decide), offMemory_settleMemory s (by rw [h]; decide)]

section
variable {s t : State} (h : t.offMemory = s.offMemory)
include h

theorem store_of_offMemory : t.store = s.store := (congrArg State.store h :)
theorem relay_of_offMemory : t.relay = s.relay := (congrArg State.relay h :)
theorem pacing_of_offMemory : t.pacing = s.pacing := (congrArg State.pacing h :)
theorem sco_of_offMemory : t.sco = s.sco := (congrArg State.sco h :)
theorem ovl_of_offMemory : t.ovl = s.ovl := (congrArg State.ovl h :)
theorem records_of_offMemory : t.records = s.records := (congrArg State.records h :)
theorem link_of_offMemory : t.link = s.link := (congrArg State.link h :)

theorem slot_of_offMemory (k : Fin 5) : t.slot k = s.slot k := by rw [State.slot, store_of_offMemory h]; rfl

theorem flags_of_offMemory (p : Port) (c : Cause) : (t.port p).flags c = (s.port p).flags c := by
  have hc : ∀ u : State, (u.offMemory.peu.ports.get p).flags c = (u.port p).flags c := fun u => by cases p <;> rfl
  rw [← hc, ← hc, h]

end

/-! ## The memory port in every state -/

/-- The state but for what the memory port changes, retention with it. -/
def State.offRest (s : State) : State :=
  { s with
    choices := 0
    lra.staging := []
    store.slots := Vector.replicate 5 Slot.reset
    pacing.presented := none
    pacing.repeatSource := none
    mpt := MemPort.reset
    records := Records.reset
    peu.ports := { system := PortCtl.reset, link := PortCtl.reset } }

theorem offRest_foldl {α : Type} (f : State → α → State) (h : ∀ s x, (f s x).offRest = s.offRest) (xs : List α)
    (s : State) : (xs.foldl f s).offRest = s.offRest := foldl_keeps State.offRest f h xs s

theorem offRest_eachFree {α : Type} (xs : List α) (f : State → α → State) (h : ∀ s x, (f s x).offRest = s.offRest)
    (s : State) : (s.eachFree xs f).offRest = s.offRest := by
  rw [State.eachFree, offRest_foldl f h]; rfl

theorem offRest_recordIfUnrecorded (s : State) (k : Fin 5) : (s.recordIfUnrecorded k).offRest = s.offRest := by
  unfold State.recordIfUnrecorded
  split
  · rfl
  · rw [State.appendRecord, offRest_eachFree _ State.raiseRecordsWaiting fun _ _ => rfl]
    rfl

theorem offRest_reevalRepeat (s : State) : s.reevalRepeat.offRest = s.offRest := by
  unfold State.reevalRepeat State.reevalRepeatDuring
  split
  · split <;> rfl
  · rfl

theorem offRest_freeSlot (s : State) (k : Fin 5) : (s.freeSlot k).offRest = s.offRest := by
  unfold State.freeSlot
  rw [offRest_reevalRepeat]
  dsimp only
  split <;> rfl

theorem offRest_checkRest (s : State) : s.checkRest.offRest = s.offRest := by
  unfold State.checkRest State.enterSelfRefresh State.retain
  split
  · rw [offRest_foldl _ offRest_freeSlot, offRest_eachFree _ _ offRest_recordIfUnrecorded]
    rfl
  · rfl

theorem offRest_of_offMemory {s t : State} (h : t.offMemory = s.offMemory) : t.offRest = s.offRest :=
  (congrArg State.offRest h :)

theorem offRest_settleMemory (s : State) : s.settleMemory.offRest = s.offRest := by
  rw [State.settleMemory, offRest_checkRest, State.arbitrate, offRest_of_offMemory (offMemory_arbitrateFor 3 _),
    offRest_checkRest, offRest_of_offMemory (offMemory_dropDeadHeads s)]

/-! ## The receiver and the input contract -/

/-- The lane receiver and aligner but for the staging queue, with the input contract's registers. -/
def State.inputSide (s : State) : Lra × InputContract × Option InputContract :=
  ({ s.lra with staging := [] }, s.relay.input, s.relay.waitingInput)

theorem inputSide_of_offRest {s t : State} (h : t.offRest = s.offRest) : t.inputSide = s.inputSide :=
  (congrArg State.inputSide h :)

theorem inputSide_eachFree {α : Type} (xs : List α) (f : State → α → State)
    (h : ∀ s x, (f s x).inputSide = s.inputSide) (s : State) : (s.eachFree xs f).inputSide = s.inputSide := by
  rw [State.eachFree, foldl_keeps State.inputSide f h]; rfl

/-! ### Frame store -/

theorem inputSide_reevalRepeat (s : State) : s.reevalRepeat.inputSide = s.inputSide :=
  inputSide_of_offRest (offRest_reevalRepeat s)

theorem inputSide_reevalRepeatDuring (s : State) (scanned : Option (Fin 5)) :
    (s.reevalRepeatDuring scanned).inputSide = s.inputSide := by
  unfold State.reevalRepeatDuring
  split <;> rfl

theorem inputSide_completeIfResolved (s : State) (k : Fin 5) : (s.completeIfResolved k).inputSide = s.inputSide := by
  unfold State.completeIfResolved State.completeSlot
  split
  · dsimp only
    rw [inputSide_reevalRepeat]
    split <;> rfl
  · rfl

theorem inputSide_checkEntry (s : State) (k : Fin 5) (j : Nat) : (s.checkEntry k j).inputSide = s.inputSide := by
  unfold State.checkEntry
  split
  · rfl
  · rfl
  · rw [inputSide_completeIfResolved]; rfl

theorem inputSide_cutSlot (s : State) (k : Fin 5) (linesDone : Nat) :
    (s.cutSlot k linesDone).inputSide = s.inputSide := by
  unfold State.cutSlot
  dsimp only
  rw [foldl_keeps State.inputSide (State.cutSlice k) fun u j => inputSide_checkEntry u k j]
  rfl

theorem inputSide_supersede (s : State) (k : Fin 5) : (s.supersede k).inputSide = s.inputSide := by
  unfold State.supersede State.appendRecord
  show ((_ : State).eachFree _ State.raiseRecordsWaiting).inputSide = _
  rw [inputSide_eachFree _ State.raiseRecordsWaiting fun _ _ => rfl]
  rfl

/-! ### Relay controller -/

theorem inputSide_relayChanged (s : State) (old new : RelayState) : (s.relayChanged old new).inputSide = s.inputSide := by
  have hg : ∀ u : State, u.beginGrace.inputSide = u.inputSide := fun u => by
    unfold State.beginGrace
    dsimp only
    repeat' split
    all_goals rfl
  unfold State.relayChanged
  extract_lets p s1 s2 s3 r
  have h1 : s1.inputSide = s.inputSide := by simp only [s1]; split <;> rfl
  have h2 : s2.inputSide = s.inputSide := by
    simp only [s2]
    split
    · exact (hg s1).trans h1
    · exact h1
  have h3 : s3.inputSide = s.inputSide := by simp only [s3]; split <;> exact h2
  split <;> exact h3

theorem inputSide_reevaluate (s : State) : s.reevaluate.inputSide = s.inputSide := by
  unfold State.reevaluate
  dsimp only
  split
  · rfl
  · show (State.relayChanged _ _ _).inputSide = _
    rw [inputSide_relayChanged]
    rfl

/-! ### A scan open with no frame being received -/

theorem inputSide_dropCaptures (s : State) : s.dropCaptures.inputSide = s.inputSide := by
  have h : ∀ (u : State) p, (u.dropCapture p).inputSide = u.inputSide := fun u p => by
    unfold State.dropCapture
    split <;> rfl
  rw [State.dropCaptures, h, h]

theorem inputSide_dropPin (s : State) (p : Port) : (s.dropPin p).inputSide = s.inputSide := by
  unfold State.dropPin
  split <;> rfl

/-- No frame is being received, by the receiver's own registers. -/
theorem receiving_congr {s t : State} (h : t.inputSide = s.inputSide) : t.receiving = s.receiving := by
  have ha : t.lra.assembly = s.lra.assembly := (congrArg (fun x : Lra × _ × _ => x.1.assembly) h :)
  have hf : t.lra.frame = s.lra.frame := (congrArg (fun x : Lra × _ × _ => x.1.frame) h :)
  rw [State.receiving, ha, hf]; rfl

/-- With no frame being received a relayout cuts nothing, and the receiver stays but for the staging queue. -/
theorem inputSide_relayout (s : State) (c : PanelContract) (h : s.receiving = none) :
    (s.relayout c).inputSide = s.inputSide := by
  unfold State.relayout
  rw [cutAtBoundary_of_none s h]
  show s.emptyStaging.dropPinsRelayout.inputSide = _
  rw [State.dropPinsRelayout, inputSide_dropCaptures, inputSide_eachFree _ (State.expirePin 2) inputSide_dropPin]
  rfl

theorem inputSide_installPanel (s : State) (h : s.receiving = none) : s.installPanel.inputSide = s.inputSide := by
  unfold State.installPanel
  split
  · rfl
  · dsimp only
    split
    · exact inputSide_relayout _ _ h
    · rfl

theorem inputSide_openKind (s : State) (kind : ScanKind) (k : Option (Fin 5)) :
    (s.openKind kind k).inputSide = s.inputSide := by
  have hp : ∀ u : State, u.planRepeats.inputSide = u.inputSide := fun u => by
    unfold State.planRepeats
    dsimp only
    repeat' split
    all_goals rfl
  have hq : ∀ (u : State) j, (u.predict j).inputSide = u.inputSide := fun u j => by
    unfold State.predict
    split <;> rfl
  unfold State.openKind
  split
  · unfold State.openNew
    dsimp only
    rw [hp, hq, inputSide_reevalRepeatDuring]
    exact inputSide_eachFree _ _ inputSide_supersede s
  · rfl
  · rfl

theorem inputSide_fetchSlice (s : State) (j : Nat) : (s.fetchSlice j).inputSide = s.inputSide := by
  have hr : ∀ (u : State) cls, (u.reportSlice cls).inputSide = u.inputSide := fun u cls => by
    unfold State.reportSlice
    split <;> rfl
  have ha : ∀ (u : State) c k, (u.askFallback c k j).1.inputSide = u.inputSide := fun u c k => by
    unfold State.askFallback
    split
    · rfl
    · split
      · split
        · rfl
        · exact inputSide_checkEntry u _ j
      · rfl
  unfold State.fetchSlice
  split
  · rfl
  · split
    · rename_i c _ _ _ k p _ _
      show (State.reportSlice _ _).inputSide = _
      rw [hr]
      exact (ha _ c k).trans (inputSide_checkEntry s k j)
    · rfl

theorem inputSide_drawNext (s : State) : s.drawNext.inputSide = s.inputSide := by
  have hf : ∀ y, (s.fetchAt y).inputSide = s.inputSide := fun y => by
    unfold State.fetchAt
    split
    · exact foldl_keeps State.inputSide _ inputSide_fetchSlice _ _
    · rfl
  have hm : ∀ (u : State) j d, (u.missedRead j d).inputSide = u.inputSide := fun u j d => by
    unfold State.missedRead State.reportSlice
    split <;> rfl
  have hb : ∀ (u : State) c y, (u.baseLine c y).1.inputSide = u.inputSide := fun u c y => by
    unfold State.baseLine
    dsimp only
    repeat' split
    all_goals simp only [hm]
  unfold State.drawNext
  split
  · rfl
  · dsimp only
    split
    · exact hf _
    · exact (hb _ _ _).trans (hf _)

theorem inputSide_openScan (s : State) (h : s.receiving = none) : s.openScan.inputSide = s.inputSide := by
  have ho : ∀ (u : State) kind, (u.installOverlay kind).inputSide = u.inputSide := fun u kind => by
    unfold State.installOverlay
    split <;> rfl
  rw [openScan_eq, State.openAs, beginScan_eq, inputSide_drawNext]
  exact (ho _ _).trans ((inputSide_openKind _ _ _).trans (inputSide_installPanel s h))

theorem inputSide_holdOrOpen (s : State) (h : s.receiving = none) : s.holdOrOpen.inputSide = s.inputSide := by
  unfold State.holdOrOpen
  split
  · rfl
  · exact inputSide_openScan s h

/-- With no frame being received, what follows an event leaves the receiver and the input contract alone. -/
theorem inputSide_settle (s before : State) (h : s.receiving = none) : (s.settle before).inputSide = s.inputSide := by
  have h1 : (s.respan before).inputSide = s.inputSide := by
    unfold State.respan
    split
    · exact inputSide_holdOrOpen s h
    · rfl
  have hr : (s.respan before).receiving = none := (receiving_congr h1).trans h
  have h2 : (s.respan before).evaluateStart.inputSide = s.inputSide := by
    unfold State.evaluateStart
    split
    · exact (inputSide_openScan _ hr).trans h1
    · exact h1
  rw [State.settle, inputSide_of_offRest (offRest_settleMemory _)]
  exact h2

theorem lanes_of_inputSide {s t : State} (h : t.inputSide = s.inputSide) (l : Lane) : t.lane l = s.lane l :=
  (congrArg (fun x : Lra × _ × _ => x.1.lanes.get l) h :)

/-! ## No cause goes in what follows an event -/

theorem pending_holdOrOpen (s : State) (p : Port) (c : Cause) (h : ((s.port p).flags c).pending = true) :
    ((s.holdOrOpen.port p).flags c).pending = true := by
  unfold State.holdOrOpen
  split
  · exact h
  · exact (openScan_opens s).pending p c h

theorem pending_settle (s before : State) (p : Port) (c : Cause) (h : ((s.port p).flags c).pending = true) :
    (((s.settle before).port p).flags c).pending = true := by
  refine (steady_settleMemory _).pending p c ?_
  have h1 : (((s.respan before).port p).flags c).pending = true := by
    unfold State.respan
    split
    · exact pending_holdOrOpen s p c h
    · exact h
  unfold State.evaluateStart
  split
  · exact (openScan_opens _).pending p c h1
  · exact h1

end Sys2Proof.Machine
end

section
/-! Statements about deadlines: grace, the repeat deadline. -/
namespace Sys2Proof.Machine

/-! ## Grace (R4, R91) -/

/-- Settles O26: the grace end clears its registers, and in a scan only the memory port follows. -/
theorem graceExpires : Obligations.GraceExpires := by
  intro e d s hstate hflag hend hdue hscan
  have htake : (s.arrive e).graceTaken =
      State.settle { (s.arrive e).clearPlanned with relay.graceFlag := false, relay.graceEnd := none } (s.arrive e) := by
    refine if_pos ⟨by rw [arrive_relay]; exact hflag, ?_⟩
    rw [arrive_relay, hend]
    exact hdue
  have hoff := offMemory_settle_of_scanning
    { (s.arrive e).clearPlanned with relay.graceFlag := false, relay.graceEnd := none } (s.arrive e)
    (by rw [← hscan]; exact congrArg ScanOut.state (arrive_sco s e))
  have hrelay := relay_of_offMemory hoff
  have hpacing := pacing_of_offMemory hoff
  have hborder : (s.arrive e).relay.state = .border := by rw [arrive_relay]; exact hstate
  refine ⟨_, congrArg Host.Outcome.next htake, ?_, ?_, ?_, ?_, ?_, ?_⟩
  · rw [hrelay]
  · rw [hrelay]
  · rw [hpacing]; rfl
  · rw [hpacing]; rfl
  · rw [hrelay]; exact hborder
  · rw [State.usesIdle, hrelay]
    exact Bool.and_eq_true_iff.mpr ⟨decide_eq_true hborder, rfl⟩

/-! ## The repeat deadline (R85, R124) -/

theorem repeatDeadline_arrive (s : State) (e : Env) : (s.arrive e).repeatDeadline = s.repeatDeadline := by
  simp [State.repeatDeadline, State.usesIdle]

/-- A repeat deadline that is due, with the scan-out READY, brings a hold or a scan, and what follows. -/
theorem repeatTaken_of_due {e : Env} {d : Deadline} {s : State} (hidle : s.relay.state ≠ .idle)
    (hready : s.sco.state = .ready) (hd : s.repeatDeadline = some d) (hdue : d.due (s.arrive e).relayTime = true) :
    (s.arrive e).repeatTaken = (s.arrive e).holdOrOpen.settle (s.arrive e) := by
  refine if_pos ⟨by rw [arrive_relay]; exact hidle, by rw [arrive_sco]; exact hready, ?_⟩
  rw [State.repeatDue, repeatDeadline_arrive, hd, deadlineDue, hdue]
  rfl

/-- Settles O24: at the deadline `holdOrOpen` takes its hold or its open, and no scan opens in what follows. -/
theorem repeatDeadlineHoldsOrOpens : Obligations.RepeatDeadlineHoldsOrOpens := by
  refine ⟨fun e d s hidle hready hd hdue hhold => ?_, fun e d s hidle hready hd hdue hhold => ?_⟩
  · have htake := repeatTaken_of_due hidle hready hd hdue
    rw [State.holdOrOpen, if_pos hhold, settle_of_not_ready _ _ (show ScanOutState.holding ≠ .ready by decide)] at htake
    have hst := steady_settleMemory (s.arrive e).enterHold
    have hplan : (s.arrive e).enterHold.settleMemory.pacing.planned = [] :=
      (congrArg (fun u : State => u.pacing.planned) (offRest_settleMemory (s.arrive e).enterHold) :)
    generalize (s.arrive e).enterHold.settleMemory = t at htake hst hplan
    refine ⟨_, congrArg Host.Outcome.next htake, hst.scanOut, ?_, congrArg Still.lastHoldEntry hst.still, hplan,
      hst.waiting rfl, ?_⟩
    · rw [hst.link]
      show (s.arrive e).link ++ [.holdEnter] = _
      rw [arrive_link]
      rfl
    · rw [hst.lastOpen]
      show (s.arrive e).pacing.lastOpen = _
      rw [arrive_pacing]
  · have htake := repeatTaken_of_due hidle hready hd hdue
    have ho := openScan_opens (s.arrive e)
    rw [State.holdOrOpen, if_neg (by rw [hhold]; decide), settle_of_not_ready _ _ (by rw [ho.state]; decide)] at htake
    have hst := steady_settleMemory (s.arrive e).openScan
    obtain ⟨kind, pixels, hlink, hlen, hlast⟩ := ho.sent
    generalize (s.arrive e).openScan.settleMemory = t at htake hst
    refine ⟨_, kind, pixels, congrArg Host.Outcome.next htake, hst.scanOut.trans ho.state, ?_, ?_, ?_,
      hst.tminReached.trans ho.tminReached, hst.waiting ho.waitingRepeat, hst.waitingPanel.trans ho.waitingPanel, ?_⟩
    · rw [hst.link, hlink, arrive_link]
      rfl
    · rw [hst.contract]; exact hlen
    · rw [hst.lastOpen]; exact hlast
    · rw [hst.ovl]; exact ho.overlay

end Sys2Proof.Machine
end

section
/-! Statements about the aligner: the entry into SEARCH, a lane lost without concealment, a cleared CONCEAL_PERMIT, the
input apply. -/
namespace Sys2Proof.Machine

/-! ## The input apply (R7) -/

/-- The aligner's state with its search run and the frame assembly's. -/
def State.search (s : State) : AlignerState × Nat × AssemblyState := (s.lra.aligner, s.lra.searchRun, s.lra.assembly)

theorem search_of_inputSide {s t : State} (h : t.inputSide = s.inputSide) : t.search = s.search :=
  (congrArg (fun x : Lra × _ × _ => (x.1.aligner, x.1.searchRun, x.1.assembly)) h :)

theorem search_installInput (s : State) : s.installInput.1.search = s.search := by
  unfold State.installInput
  split
  · rfl
  · dsimp only
    rw [State.eachFree, foldl_keeps State.search State.laneFaulted fun _ _ => rfl]
    rfl

/-- A faulted lane keeps its counts; the other lanes are not touched. -/
theorem lane_laneFaulted (s : State) (l m : Lane) :
    (s.laneFaulted m).lane l = if l = m then { s.lane l with state := .faulted } else s.lane l := by
  have h : (s.laneFaulted m).lane l = (s.modLane m fun x => { x with state := .faulted }).lane l := rfl
  rw [h]
  split
  · rename_i e; subst e; rw [lane_modLane_same]
  · rename_i e; rw [lane_modLane_other _ _ _ _ e]

/-- What the input apply does to a lane's counts: each is brought under its new limit. -/
theorem counts_installInput (s : State) (c : InputContract) (h : s.relay.waitingInput = some c) (l : Lane) :
    (s.installInput.1.lane l).missCount = adjustCount c.missLimit (s.lane l).missCount ∧
      (s.installInput.1.lane l).skewCount = adjustCount c.skewLimit (s.lane l).skewCount := by
  have hkeep : ∀ (u : State) m, ((u.laneFaulted m).lane l).missCount = (u.lane l).missCount ∧
      ((u.laneFaulted m).lane l).skewCount = (u.lane l).skewCount := fun u m => by
    rw [lane_laneFaulted]
    split <;> exact ⟨rfl, rfl⟩
  simp only [State.installInput, h, State.eachFree]
  rw [foldl_keeps (fun u => (u.lane l).missCount) State.laneFaulted fun u m => (hkeep u m).1,
    foldl_keeps (fun u => (u.lane l).skewCount) State.laneFaulted fun u m => (hkeep u m).2]
  cases l <;> exact ⟨rfl, rfl⟩

/-- The contract registers after an input apply, with its cause raised. -/
theorem registers_installInput (s : State) (c : InputContract) (h : s.relay.waitingInput = some c) :
    s.installInput.1.relay.input = c ∧ s.installInput.1.relay.waitingInput = none ∧
      ∀ p, ((s.installInput.1.port p).flags .contractApplied).pending = true := by
  simp only [State.installInput, h]
  refine ⟨?_, ?_, fun p => ?_⟩
  · rw [State.eachFree, foldl_keeps (fun u => u.relay.input) State.laneFaulted fun _ _ => rfl]; rfl
  · rw [State.eachFree, foldl_keeps (fun u => u.relay.waitingInput) State.laneFaulted fun _ _ => rfl]; rfl
  · refine (Steady.eachFree _ _ steady_laneFaulted _).pending p _ ?_
    rw [port_raise, flags_enter_same, pending_enter]

/-- Every ACTIVE lane has both counts at 0. -/
def State.countsClear (s : State) : Prop :=
  ∀ l, (s.lane l).state = .active → (s.lane l).missCount = 0 ∧ (s.lane l).skewCount = 0

/-- New limits find no lane to fault where the counts are 0, and leave every lane's state (assumption log 29). -/
theorem installInput_of_countsClear (s : State) (h : s.countsClear) :
    (∀ l, (s.installInput.1.lane l).state = (s.lane l).state) ∧ s.installInput.1.countsClear := by
  cases hw : s.relay.waitingInput with
  | none =>
    simp only [State.installInput, hw]
    exact ⟨fun _ => trivial, h⟩
  | some c =>
    have hnone : (allLanes.filter fun l => (s.lane l).faultsUnder c) = [] := by
      refine List.filter_eq_nil_iff.mpr fun l _ hf => ?_
      simp only [LaneRec.faultsUnder, Bool.and_eq_true, decide_eq_true_eq] at hf
      obtain ⟨hm, hk⟩ := h l hf.1
      rw [hm, hk] at hf
      simp only [reachesLimit, Bool.or_eq_true, Bool.and_eq_true, decide_eq_true_eq] at hf
      omega
    have hlane : ∀ l, s.installInput.1.lane l = (s.lane l).adjust c := fun l => by
      simp only [State.installInput, hw, hnone]
      cases l <;> rfl
    refine ⟨fun l => by rw [hlane]; rfl, fun l hl => ?_⟩
    rw [hlane] at hl ⊢
    obtain ⟨hm, hk⟩ := h l hl
    simp [LaneRec.adjust, adjustCount, hm, hk]

/-! ## The entry into SEARCH (R25) -/

theorem cutReceived_lane (s : State) (l : Lane) : s.cutReceived.lane l = s.lane l := by
  unfold State.cutReceived
  split
  · exact lanes_of_inputSide (inputSide_cutSlot s _ _) l
  · rfl

/-- The state just before the boundary of a waiting input apply in an entry into SEARCH. -/
def State.searchBegun (s : State) (onLane : LaneRec → LaneRec) : State :=
  { s.cutReceived.mapLanes fun x => (onLane x).clearRuns with
    lra.aligner := .search, lra.searchRun := 0, pacing.prevArrival := none }

theorem enterSearch_eq (s : State) (onLane : LaneRec → LaneRec) : s.enterSearch onLane = State.reevaluate
    (if s.receiving.isSome then (s.searchBegun onLane).installInput.1 else s.searchBegun onLane) := rfl

theorem lane_searchBegun (s : State) (onLane : LaneRec → LaneRec) (l : Lane) :
    (s.searchBegun onLane).lane l = (onLane (s.lane l)).clearRuns := by
  have h : (s.searchBegun onLane).lane l = (s.cutReceived.mapLanes fun x => (onLane x).clearRuns).lane l := rfl
  rw [h, lane_mapLanes, cutReceived_lane]

theorem search_searchBegun (s : State) (onLane : LaneRec → LaneRec) : (s.searchBegun onLane).search = (.search, 0, .gap) := by
  unfold State.searchBegun State.cutReceived
  split <;> rfl

/-- An entry into SEARCH leaves the aligner in SEARCH with a run of 0 and no frame being received. -/
theorem search_enterSearch (s : State) (onLane : LaneRec → LaneRec) : (s.enterSearch onLane).search = (.search, 0, .gap) := by
  rw [enterSearch_eq, search_of_inputSide (inputSide_reevaluate _)]
  split
  · rw [search_installInput, search_searchBegun]
  · exact search_searchBegun s onLane

/-- If every lane left ACTIVE has its counts cleared, an entry into SEARCH gives each lane the state of `onLane`, and the
counts stay clear. -/
theorem lanes_enterSearch (s : State) (onLane : LaneRec → LaneRec)
    (h : ∀ l, (onLane (s.lane l)).state = .active →
      (onLane (s.lane l)).missCount = 0 ∧ (onLane (s.lane l)).skewCount = 0) :
    (∀ l, ((s.enterSearch onLane).lane l).state = (onLane (s.lane l)).state) ∧ (s.enterSearch onLane).countsClear := by
  have hstate : ∀ l, ((s.searchBegun onLane).lane l).state = (onLane (s.lane l)).state := fun l => by
    rw [lane_searchBegun]; rfl
  have hclear : (s.searchBegun onLane).countsClear := fun l => by
    rw [lane_searchBegun]; exact h l
  obtain ⟨hi, hc⟩ := installInput_of_countsClear _ hclear
  have hlane := lanes_of_inputSide (inputSide_reevaluate
    (if s.receiving.isSome then (s.searchBegun onLane).installInput.1 else s.searchBegun onLane))
  rw [enterSearch_eq]
  unfold State.countsClear
  simp only [hlane]
  split
  · exact ⟨fun l => (hi l).trans (hstate l), hc⟩
  · exact ⟨hstate, hclear⟩

theorem aligner_of_search {s : State} (h : s.search = (.search, 0, .gap)) :
    s.lra.aligner = .search ∧ s.lra.searchRun = 0 := by
  simp_all [State.search]

theorem lane_raise (s : State) (c : Cause) (v : BitVec 16) (l : Lane) : (s.raise c v).lane l = s.lane l := rfl

theorem receiving_of_search {s : State} (h : s.search = (.search, 0, .gap)) : s.receiving = none := by
  have ha : s.lra.assembly = .gap := congrArg (fun x : _ × _ × _ => x.2.2) h
  rw [State.receiving, ha]
  rfl

theorem search_loseLock (s : State) : s.loseLock.search = (.search, 0, .gap) := search_enterSearch s _

/-- What a loss of lock leaves when the event is over: SEARCH, a run of 0, the lanes as the entry left them, LOCK_LOST
pending in both sets. -/
theorem loseLock_settle (s before : State) : (s.loseLock.settle before).lra.aligner = .search ∧
    (s.loseLock.settle before).lra.searchRun = 0 ∧
    (∀ l, (s.loseLock.settle before).lane l = (s.enterSearch LaneRec.keepOnSearch).lane l) ∧
    ∀ p, (((s.loseLock.settle before).port p).flags .lockLost).pending = true := by
  have hin := inputSide_settle s.loseLock before (receiving_of_search (search_loseLock s))
  have hs : (s.loseLock.settle before).search = (.search, 0, .gap) := (search_of_inputSide hin).trans (search_loseLock s)
  have hlost : ∀ p, ((s.loseLock.port p).flags .lockLost).pending = true := fun p => by
    rw [State.loseLock, port_raise, flags_enter_same, pending_enter]
  have hlane : ∀ l, s.loseLock.lane l = (s.enterSearch LaneRec.keepOnSearch).lane l := fun l => by
    rw [State.loseLock, lane_raise]
  refine ⟨(aligner_of_search hs).1, (aligner_of_search hs).2, fun l => ?_, fun p => ?_⟩
  · rw [lanes_of_inputSide hin, hlane]
  · exact pending_settle _ _ p _ (hlost p)

/-! ## A lane at its limit without concealment (R21, R24, R25) -/

/-- The lane test leaves a lane's state and counts. -/
theorem lane_testGroup (s : State) (d : PerLane Delivery) (l : Lane) : ((s.testGroup d).lane l).state = (s.lane l).state ∧
    ((s.testGroup d).lane l).missCount = (s.lane l).missCount ∧
    ((s.testGroup d).lane l).skewCount = (s.lane l).skewCount := by
  have hword : ∀ (x : LaneRec) w, ((x.testWord w).state, (x.testWord w).missCount, (x.testWord w).skewCount) =
      (x.state, x.missCount, x.skewCount) := fun x w => by
    unfold LaneRec.testWord
    dsimp only
    repeat' split
    all_goals rfl
  have hlane : ∀ (u : State) m, (((u.testLane d m).lane l).state, ((u.testLane d m).lane l).missCount,
      ((u.testLane d m).lane l).skewCount) = ((u.lane l).state, (u.lane l).missCount, (u.lane l).skewCount) := fun u m => by
    unfold State.testLane
    split
    · by_cases hm : l = m
      · subst hm; rw [lane_modLane_same, hword]
      · rw [lane_modLane_other _ _ _ _ hm]
    · rfl
  have h : (((s.testGroup d).lane l).state, ((s.testGroup d).lane l).missCount, ((s.testGroup d).lane l).skewCount) =
      ((s.lane l).state, (s.lane l).missCount, (s.lane l).skewCount) := by
    unfold State.testGroup
    split
    · exact foldl_keeps (fun u => ((u.lane l).state, (u.lane l).missCount, (u.lane l).skewCount)) _ hlane _ _
    · rfl
  simpa using h

theorem aligner_testGroup (s : State) (d : PerLane Delivery) : (s.testGroup d).lra.aligner = s.lra.aligner := by
  unfold State.testGroup
  split
  · refine foldl_keeps (fun u => u.lra.aligner) _ (fun u m => ?_) _ _
    unfold State.testLane
    split <;> rfl
  · rfl

theorem relay_testGroup (s : State) (d : PerLane Delivery) : (s.testGroup d).relay = s.relay := by
  unfold State.testGroup
  split
  · refine foldl_keeps State.relay _ (fun u m => ?_) _ _
    unfold State.testLane
    split <;> rfl
  · rfl

theorem countFaults_congr (c : InputContract) (x y : LaneRec) (o : LaneOutcome) (hm : x.missCount = y.missCount)
    (hs : x.skewCount = y.skewCount) : x.countFaults c o = y.countFaults c o := by
  unfold LaneRec.countFaults
  rw [hm, hs]

theorem relay_countLane (o : PerLane LaneOutcome) (s : State) (m : Lane) : (s.countLane o m).relay = s.relay := by
  unfold State.countLane State.reportOutcome
  split
  · split <;> rfl
  · rfl

theorem aligner_countLane (o : PerLane LaneOutcome) (s : State) (m : Lane) :
    (s.countLane o m).lra.aligner = s.lra.aligner := by
  unfold State.countLane State.reportOutcome
  split
  · split <;> rfl
  · rfl

/-- A group's outcome reaches the counts of its own lane, if that is ACTIVE. -/
theorem lane_countLane (o : PerLane LaneOutcome) (s : State) (l m : Lane) : (s.countLane o m).lane l =
    if l = m ∧ (s.lane l).state = .active then (s.lane l).count s.relay.input (o.get l) else s.lane l := by
  have hr : ∀ u : State, (u.reportOutcome m (o.get m)).lane l = u.lane l := fun u => by
    unfold State.reportOutcome
    split <;> rfl
  unfold State.countLane
  by_cases hm : l = m
  · subst hm
    split
    · rename_i hl
      rw [hr, lane_modLane_same, if_pos ⟨rfl, hl⟩]
    · rename_i hl
      rw [if_neg fun hc => hl hc.2]
  · have hother : (if (s.lane m).state = .active then
        (s.modLane m fun x => x.count s.relay.input (o.get m)).reportOutcome m (o.get m) else s).lane l = s.lane l := by
      split
      · rw [hr, lane_modLane_other _ _ _ _ hm]
      · rfl
    rw [hother, if_neg fun hc => hm hc.1]

theorem state_count (c : InputContract) (x : LaneRec) (o : LaneOutcome) : (x.count c o).state = x.state := by
  unfold LaneRec.count
  split <;> rfl

/-- The counts of all lanes at the close of a group period. -/
theorem lane_countLanes (o : PerLane LaneOutcome) (s : State) (l : Lane) : (allLanes.foldl (State.countLane o) s).lane l =
    if (s.lane l).state = .active then (s.lane l).count s.relay.input (o.get l) else s.lane l := by
  cases l <;> simp [allLanes, lane_countLane, relay_countLane]

theorem aligner_countLanes (o : PerLane LaneOutcome) (s : State) :
    (allLanes.foldl (State.countLane o) s).lra.aligner = s.lra.aligner :=
  foldl_keeps (fun u => u.lra.aligner) _ (aligner_countLane o) _ _

/-- Exactly one lane meets a condition. -/
theorem filter_allLanes_eq_singleton (f : Lane → Bool) (l : Lane) (hl : f l = true) (h : ∀ m, m ≠ l → f m = false) :
    allLanes.filter f = [l] := by
  cases l
  · have hb := h .b (by decide); have hc := h .c (by decide); simp [allLanes, hl, hb, hc]
  · have ha := h .a (by decide); have hc := h .c (by decide); simp [allLanes, hl, ha, hc]
  · have ha := h .a (by decide); have hb := h .b (by decide); simp [allLanes, hl, ha, hb]

theorem modeWord_of_outer {s t : State} (h : t.outer = s.outer) : t.peu.modeWord = s.peu.modeWord :=
  congrArg Outer.modeWord h

theorem concealPermit_of_outer {s t : State} (h : t.outer = s.outer) : t.concealPermit = s.concealPermit := by
  rw [State.concealPermit, modeWord_of_outer h]; rfl

/-- One lane lost by its counts, in LOCKED without concealment: the lane is FAULTED, then lock is lost. -/
theorem countGroup_of_one_lost (s : State) (o : PerLane LaneOutcome) (l : Lane) (hlock : s.lra.aligner = .locked)
    (hconceal : s.concealPermit = false) (hact : ∀ m, (s.lane m).state = .active)
    (hl : (s.lane l).countFaults s.relay.input (o.get l) = true)
    (hm : ∀ m, m ≠ l → (s.lane m).countFaults s.relay.input (o.get m) = false) :
    s.countGroup o = ((allLanes.foldl (State.countLane o) s).laneFaulted l).loseLock := by
  have hlost : (allLanes.filter fun m =>
      decide ((s.lane m).state = .active) && (s.lane m).countFaults s.relay.input (o.get m)) = [l] :=
    filter_allLanes_eq_singleton _ l (by simp [hact, hl]) fun m hne => by simp [hm m hne]
  have halign : ((allLanes.foldl (State.countLane o) s).laneFaulted l).lra.aligner = .locked :=
    (aligner_countLanes o s).trans hlock
  have hc : ((allLanes.foldl (State.countLane o) s).laneFaulted l).concealPermit = false :=
    (concealPermit_of_outer ((outer_laneFaulted _ l).trans (outer_foldl _ (outer_countLane o) _ s))).trans hconceal
  unfold State.countGroup
  dsimp only
  rw [hlost]
  generalize allLanes.foldl (State.countLane o) s = u at halign hc ⊢
  show (u.laneFaulted l).laneLost l = _
  rw [State.laneLost, halign]
  exact if_neg (by rw [hc]; decide)

theorem exec_groupPeriod (e : Env) (d : PerLane Delivery) (s u : State) (h : (s.arrive e).closeGroup d = some u) :
    exec (.groupPeriod e d) s = .next (u.settle (s.arrive e)) := by
  show execGroupPeriod e d s = _
  rw [execGroupPeriod, h]

/-- Settles O8: the one lane lost becomes FAULTED, and the loss of lock clears the counts of the others. -/
theorem faultWithoutConcealLosesLock : Obligations.FaultWithoutConcealLosesLock := by
  intro e d s l hlock hconceal hact hl hm
  have hlane := lane_testGroup (s.arrive e) d
  have hrelay : ((s.arrive e).testGroup d).relay = s.relay := (relay_testGroup _ d).trans (arrive_relay s e)
  have halign : ((s.arrive e).testGroup d).lra.aligner = .locked :=
    (aligner_testGroup _ d).trans ((congrArg Lra.aligner (arrive_lra s e)).trans hlock)
  have hact1 : ∀ m, (((s.arrive e).testGroup d).lane m).state = .active := fun m => by
    rw [(hlane m).1, arrive_lane]; exact hact m
  have hfault : ∀ m, (((s.arrive e).testGroup d).lane m).countFaults ((s.arrive e).testGroup d).relay.input
      ((outcomes d).get m) = (s.lane m).countFaults s.relay.input ((outcomes d).get m) := fun m => by
    obtain ⟨_, hmiss, hskew⟩ := hlane m
    rw [arrive_lane] at hmiss hskew
    rw [hrelay]
    exact countFaults_congr _ _ _ _ hmiss hskew
  have hgroup := countGroup_of_one_lost _ (outcomes d) l halign
    ((concealPermit_of_outer ((outer_testGroup _ d).trans (arrive_outer s e))).trans hconceal) hact1
    ((hfault l).trans hl) fun m hne => (hfault m).trans (hm m hne)
  generalize hv : (allLanes.foldl (State.countLane (outcomes d)) ((s.arrive e).testGroup d)).laneFaulted l = v at hgroup
  have hclose : (s.arrive e).closeGroup d = some v.loseLock := by
    unfold State.closeGroup State.takeOutcomes
    simp only [halign, hgroup]
    exact if_pos (.inr (congrArg Prod.fst (search_loseLock v)))
  have hvlane : ∀ m, (v.lane m).state = if m = l then .faulted else .active := fun m => by
    rw [← hv, lane_laneFaulted, lane_countLanes, if_pos (hact1 m)]
    split
    · rfl
    · rw [state_count]; exact hact1 m
  have hvfault : ∀ p, ((v.port p).flags .laneFault).pending = true := fun p => by
    rw [← hv, State.laneFaulted, State.raiseLaneFault, port_raise, flags_enter_same, pending_enter]
  obtain ⟨hsearch, hrun, hlanes, hlost⟩ := loseLock_settle v (s.arrive e)
  have hkeep : ∀ m, (v.lane m).keepOnSearch.state = (v.lane m).state := fun m => by
    unfold LaneRec.keepOnSearch
    split <;> rfl
  obtain ⟨hstate, hclear⟩ := lanes_enterSearch v LaneRec.keepOnSearch fun m hma => by
    rw [hkeep] at hma
    rw [LaneRec.keepOnSearch, if_pos hma]
    exact ⟨rfl, rfl⟩
  refine ⟨_, exec_groupPeriod e d s _ hclose, hsearch, hrun, ?_, fun m hne => ?_, fun p => ⟨?_, hlost p⟩⟩
  · rw [hlanes, hstate, hkeep, hvlane, if_pos rfl]
  · have hs : ((v.enterSearch LaneRec.keepOnSearch).lane m).state = .active := by
      rw [hstate, hkeep, hvlane, if_neg hne]
    rw [hlanes]
    exact ⟨hs, hclear m hs⟩
  · exact pending_settle _ _ p _ ((steady_loseLock v).pending p _ (hvfault p))

/-! ## CONCEAL_PERMIT cleared in DEGRADED (R17) -/

/-- A port that owns a field of the mode word may write the word. -/
theorem hasRight_modeFields (profile : Fin 4) (p : Port) (h : ownedMask profile p ≠ 0) :
    Machine.hasRight profile p .modeFields = true := by
  revert h
  fin_cases profile <;> cases p <;> decide

end Sys2Proof.Machine
end

section
/-! Statements about contracts and the mode word, as a port's transaction changes them. -/
namespace Sys2Proof.Machine

/-! ## CONCEAL_PERMIT cleared in DEGRADED (R17) -/

theorem fieldTakes_conceal (owned merged : Byte) (h : owned &&& 0x40 ≠ 0) : fieldTakes owned 0x40 merged = true := by
  rw [fieldTakes, decide_eq_true h]
  rfl

theorem fieldAfter_of_not_selected (owned old mask merged f : Byte) (h : mask &&& f = 0) :
    fieldAfter owned old mask merged f = old &&& f := if_neg fun hc => hc.1 h

/-- A masked write of 0 to CONCEAL_PERMIT by its owner clears that bit. -/
theorem modeWordAfter_clear_conceal (owned old : Byte) (h : owned &&& 0x40 ≠ 0) :
    (modeWordAfter owned old 0x40 0).getLsbD 6 = false := by
  have hclear : fieldAfter owned old 0x40 (mergeByte old 0x40 0) 0x40 = mergeByte old 0x40 0 &&& 0x40 :=
    if_pos ⟨by decide, fieldTakes_conceal _ _ h⟩
  have hkeep := fieldAfter_of_not_selected owned old 0x40 (mergeByte old 0x40 0)
  simp only [modeWordAfter, modeFields, List.foldl, hclear, hkeep 0x03 (by decide), hkeep 0x04 (by decide),
    hkeep 0x08 (by decide), hkeep 0x10 (by decide), hkeep 0x20 (by decide)]
  clear hclear hkeep
  revert old
  decide

theorem modeWritePartial_conceal (owned old value : Byte) (h : owned &&& 0x40 ≠ 0) :
    modeWritePartial owned old 0x40 value = false := by
  simp only [modeWritePartial, modeFields, List.all, List.any, fieldTakes_conceal _ _ h]
  rfl

/-- CONCEAL_PERMIT cleared while a lane is concealed: the word is in force and lock is lost. -/
theorem setModeWord_clear_conceal (s : State) (w : Byte) (hd : s.lra.aligner = .degraded) (hc : s.concealPermit = true)
    (hw : w.getLsbD 6 = false) : s.setModeWord w = State.settle (State.loseLock { s with peu.modeWord := w }) s := by
  have h : (s.concealPermit && !({ s with peu.modeWord := w } : State).concealPermit &&
      decide (s.lra.aligner = .degraded)) = true := by
    rw [hc, hd, State.concealPermit, hw]
    rfl
  exact if_pos h

/-- A masked write of one pair to the mode word, by a port that owns fields of it. -/
theorem takeWrite_modeWord (s : State) (p : Port) (mask value : Byte) (h : ownedMask s.peu.profile p ≠ 0) :
    s.takeWrite p true 0x001000 [mask, value] =
      (s.setModeWord (modeWordAfter (ownedMask s.peu.profile p) s.peu.modeWord mask value)).endTxn p
        (if modeWritePartial (ownedMask s.peu.profile p) s.peu.modeWord mask value then .partialWrite else .ok)
        (zeros 2) := by
  have hright : s.hasRight p .modeFields = true := hasRight_modeFields _ _ h
  have hmay : s.mayWrite p .modeWord 0 1 = true := by
    simp only [State.mayWrite, Region.writeRight, hright]
    rfl
  show (if s.mayWrite p .modeWord 0 1 = false then s.deny p (writeCommand true) 0x001000 2
    else (s.writeModeWord p [(mask, value)]).1.endTxn p (s.writeModeWord p [(mask, value)]).2 (zeros 2)) = _
  rw [hmay]
  rfl

/-- Settles O36: the bit cleared, the write is a loss of lock with status OK. -/
theorem clearingConcealLosesLock : Obligations.ClearingConcealLosesLock := by
  intro e p s htxn hown hd hc
  have hne : ownedMask (s.arrive e).peu.profile p ≠ 0 := fun h0 => hown (by rw [← arrive_peu s e, h0]; decide)
  have hown' : ownedMask (s.arrive e).peu.profile p &&& 0x40 ≠ 0 := by rw [arrive_peu]; exact hown
  have hw := modeWordAfter_clear_conceal _ (s.arrive e).peu.modeWord hown'
  have hset := setModeWord_clear_conceal (s.arrive e) _ ((congrArg Lra.aligner (arrive_lra s e)).trans hd)
    ((congrArg (fun x : Peu => x.modeWord.getLsbD 6) (arrive_peu s e)).trans hc) hw
  have hexec : exec (.relayModeWordWrite e p true [0x40, 0x00]) s = .next ((s.openPort e p).takeWrite p true 0x001000 _) := rfl
  rw [openPort_of_no_txn _ _ _ htxn, takeWrite_modeWord _ _ _ _ hne, modeWritePartial_conceal _ _ _ hown', hset] at hexec
  generalize hu : ({ s.arrive e with peu.modeWord := (modeWordAfter (ownedMask (s.arrive e).peu.profile p)
    (s.arrive e).peu.modeWord 0x40 0) } : State) = u at hexec
  have huc : u.concealPermit = false := by rw [← hu]; exact hw
  have hconceal := (concealPermit_of_outer ((outer_settle _ (s.arrive e)).trans (outer_loseLock u))).trans huc
  obtain ⟨halign, hrun, _, hlost⟩ := loseLock_settle u (s.arrive e)
  generalize u.loseLock.settle (s.arrive e) = v at hexec hconceal halign hrun hlost
  refine ⟨_, hexec, hconceal, halign, hrun, ?_, fun q => ?_⟩
  · rw [port_endTxn_same]; rfl
  · exact (steady_endTxn _ _ _ _).pending q _ (hlost q)

/-! ## APPLY_INPUT (R6, R7) -/

theorem exec_applyInput (e : Env) (p : Port) (data : List Byte) (s : State) (htxn : (s.port p).txn = none)
    (hr : s.hasRight p .input = true) : exec (.applyInput e ⟨p, data⟩) s =
      .next ((s.arrive e).requestInput.1.endTxn p (s.arrive e).requestInput.2 (zeros data.length)) := by
  show Host.Outcome.next ((s.openPort e p).request p .input data State.requestInput) = _
  rw [openPort_of_no_txn _ _ _ htxn, request_granted _ _ _ _ _ ((arrive_hasRight s e p .input).trans hr)]

theorem requestInput_of_waiting (s : State) (h : s.relay.waitingInput ≠ none) : s.requestInput = (s, .waiting) :=
  if_pos (Option.isSome_iff_ne_none.mpr h)

theorem requestInput_of_invalid (s : State) (h : s.relay.waitingInput = none) (hv : s.peu.pendingInput.valid = false) :
    s.requestInput = (s, .invalid) := by
  rw [State.requestInput, h, hv]
  rfl

theorem requestInput_of_valid (s : State) (h : s.relay.waitingInput = none) (hv : s.peu.pendingInput.valid = true) :
    s.requestInput = (if s.inputAppliesNow then
      (State.applyInputNow { s with relay.waitingInput := some s.peu.pendingInput }).settle s
      else { s with relay.waitingInput := some s.peu.pendingInput }, .ok) := by
  rw [State.requestInput, h, hv]
  rfl

theorem foldl_laneLost_of_search (ls : List Lane) (s : State) (h : s.lra.aligner = .search) :
    ls.foldl State.laneLost s = s := by
  induction ls with
  | nil => rfl
  | cons l ls ih =>
    have hl : s.laneLost l = s := by rw [State.laneLost, h]
    rw [List.foldl_cons, hl, ih]

theorem input_of_inputSide {s t : State} (h : t.inputSide = s.inputSide) : t.relay.input = s.relay.input :=
  (congrArg (fun x : _ × InputContract × _ => x.2.1) h :)

theorem waitingInput_of_inputSide {s t : State} (h : t.inputSide = s.inputSide) :
    t.relay.waitingInput = s.relay.waitingInput :=
  (congrArg (fun x : _ × _ × Option InputContract => x.2.2) h :)

/-- In SEARCH a faulted lane brings no further reaction: the apply is the installation alone. -/
theorem applyInputNow_of_search (s : State) (h : s.lra.aligner = .search) : s.applyInputNow = s.installInput.1 := by
  have ha : s.installInput.1.lra.aligner = .search := (congrArg Prod.fst (search_installInput s) :).trans h
  exact foldl_laneLost_of_search _ _ ha

/-- An input apply in SEARCH with no frame being received, and what follows it. -/
theorem applyInputNow_settle (s before : State) (c : InputContract) (hw : s.relay.waitingInput = some c)
    (hs : s.lra.aligner = .search) (ha : s.lra.assembly ≠ .receiving) :
    (s.applyInputNow.settle before).relay.input = c ∧ (s.applyInputNow.settle before).relay.waitingInput = none ∧
    (∀ l, ((s.applyInputNow.settle before).lane l).missCount = adjustCount c.missLimit (s.lane l).missCount) ∧
    ∀ q, (((s.applyInputNow.settle before).port q).flags .contractApplied).pending = true := by
  obtain ⟨hin, hwait, hflag⟩ := registers_installInput s c hw
  have hrec : s.installInput.1.receiving = none := by
    have h : s.installInput.1.lra.assembly ≠ .receiving := fun h =>
      ha ((congrArg (fun x : _ × _ × _ => x.2.2) (search_installInput s) :).symm.trans h)
    rw [State.receiving]
    split
    · rename_i h'; exact absurd h' h
    · rfl
  rw [applyInputNow_of_search s hs]
  have hside := inputSide_settle s.installInput.1 before hrec
  refine ⟨?_, ?_, fun l => ?_, fun q => pending_settle _ _ _ _ (hflag q)⟩
  · rw [input_of_inputSide hside, hin]
  · rw [waitingInput_of_inputSide hside, hwait]
  · rw [lanes_of_inputSide hside, (counts_installInput s c hw l).1]

theorem inputAppliesNow_of_receiving (s : State) (ha : s.lra.assembly = .receiving) (hf : s.lra.frame ≠ none)
    (hs : s.lra.aligner ≠ .search) (ht : s.lra.testOn = false) : s.inputAppliesNow = false := by
  have hr : s.receiving = s.lra.frame := if_pos ha
  rw [State.inputAppliesNow, hr, ht, decide_eq_false hs, Option.isNone_eq_false_iff.mpr (Option.isSome_iff_ne_none.mpr hf)]
  rfl

/-- Settles O42. -/
theorem applyInputAnswers : Obligations.ApplyInputAnswers := by
  intro e p data s htxn hr
  have hexec := exec_applyInput e p data s htxn hr
  have hrelay := arrive_relay s e
  have hpending : (s.arrive e).peu.pendingInput = s.peu.pendingInput := congrArg Peu.pendingInput (arrive_peu s e)
  have hlra := arrive_lra s e
  generalize hu : s.arrive e = u at hexec hrelay hpending hlra
  refine ⟨fun hw => ?_, fun hw hv => ?_, fun hw hv => ⟨fun ha hf hs ht => ?_, fun ha hs => ?_⟩⟩
  · rw [hexec, requestInput_of_waiting u (by rw [hrelay]; exact hw)]
  · rw [hexec, requestInput_of_invalid u (by rw [hrelay]; exact hw) (by rw [hpending]; exact hv)]
  · have hnow := inputAppliesNow_of_receiving u (by rw [hlra]; exact ha) (by rw [hlra]; exact hf) (by rw [hlra]; exact hs)
      (by rw [hlra]; exact ht)
    rw [hexec, requestInput_of_valid u (by rw [hrelay]; exact hw) (by rw [hpending]; exact hv), hnow, hpending]
    rfl
  · have hnow : u.inputAppliesNow = true := by
      rw [State.inputAppliesNow, hlra, decide_eq_true hs]
      rfl
    rw [requestInput_of_valid u (by rw [hrelay]; exact hw) (by rw [hpending]; exact hv), hnow, hpending] at hexec
    have hlane : ∀ l, u.lane l = s.lane l := fun l => by rw [State.lane, hlra]; rfl
    have happly := applyInputNow_settle { u with relay.waitingInput := some s.peu.pendingInput } u s.peu.pendingInput rfl
      ((congrArg Lra.aligner hlra :).trans hs) (fun h => ha ((congrArg Lra.assembly hlra :).symm.trans h))
    refine ⟨_, hexec, ?_, ?_⟩
    · rw [port_endTxn_same]; rfl
    · generalize (State.applyInputNow { u with relay.waitingInput := some s.peu.pendingInput }).settle u = v at happly
      obtain ⟨hin, hwait, hmiss, hflag⟩ := happly
      refine ⟨hin, hwait, fun l => (hmiss l).trans ?_, fun q => (steady_endTxn _ _ _ _).pending q _ (hflag q)⟩
      show adjustCount _ (u.lane l).missCount = _
      rw [hlane]
      rfl

end Sys2Proof.Machine
end

section
/-! A scan open with every slot FREE: a BORDER scan. The panel apply and the relay reset. -/
namespace Sys2Proof.Machine

/-! ## A BORDER scan (R86, R88) -/

/-- No slot holds a frame, and there is no repeat source. -/
structure State.NoFrames (s : State) : Prop where
  free : ∀ k, (s.slot k).state = .free
  repeatSource : s.pacing.repeatSource = none

theorem unscanned_of_free (s : State) (k : Fin 5) (h : (s.slot k).state = .free) : s.unscanned k = false := by
  simp [State.unscanned, h]

theorem candidate_of_free {s : State} (h : ∀ k, (s.slot k).state = .free) (gate : Bool) : s.candidate gate = none := by
  have hc : s.candidates gate = [] :=
    List.filter_eq_nil_iff.mpr fun k _ => by simp [unscanned_of_free s k (h k)]
  rw [State.candidate, hc]
  rfl

theorem chooseScan_of_noFrames {s : State} (h : s.NoFrames) : s.chooseScan = (.border, none) := by
  rw [State.chooseScan, candidate_of_free h.free, h.repeatSource]

/-- With no panel apply waiting and no frame stored, a scan open is that of a BORDER scan. -/
theorem openScan_of_noFrames {s : State} (h : s.NoFrames) (hw : s.relay.waitingPanel = none) :
    s.openScan = s.openAs .border none none := by
  rw [openScan_eq, installPanel_of_none s hw, chooseScan_of_noFrames h]
  rfl

/-- What the open of a BORDER scan leaves and brings. -/
structure OpensBorder (s t : State) : Prop where
  store : t.store = s.store
  relay : t.relay = s.relay
  scanOut : t.sco.state = .scanning
  lastHoldExit : t.sco.lastHoldExit = s.sco.lastHoldExit
  lastWakeEnding : t.sco.lastWakeEnding = s.sco.lastWakeEnding
  lastOpen : t.pacing.lastOpen.map (fun o => (o.time, o.kind)) = some (s.relayTime, .border)
  link : ∃ pixels, t.link = s.link ++ [.scanOpen .border, .line 0 pixels]
  flags : ∀ p, (t.port p).flags .pinExpired = (s.port p).flags .pinExpired

/-- A panel line with no placement is border colour: nothing is fetched. -/
theorem drawNext_of_no_placement (s : State) (c : Scan) (h : s.sco.scan = some c) (hp : c.placement = none) :
    s.drawNext = (s.modScan fun x => ({ x with nextLine := c.nextLine + 1 } : Scan).release).send
      (.line c.nextLine (s.ovl.composeLine c.nextLine c.borderLine)) := by
  have hf : s.fetchAt c.nextLine = s := by rw [State.fetchAt, h, Option.bind_some, hp]
  have hb : s.baseLine c c.nextLine = (s, c.borderLine) := by rw [State.baseLine, hp]
  simp only [State.drawNext, h, hf, hb]

theorem openAs_border (s : State) : OpensBorder s (s.openAs .border none none) := by
  let u := ((s.recordOpen .border).openKind .border none).installOverlay .border
  have hd := drawNext_of_no_placement (u.scanBegun .border none none) _ rfl rfl
  have ho := steady_installOverlay ((s.recordOpen .border).openKind .border none) .border
  have hkeep : u.store = s.store ∧ u.relay = s.relay ∧ u.sco = s.sco := by
    simp only [u, State.installOverlay]
    split <;> exact ⟨rfl, rfl, rfl⟩
  obtain ⟨hstore, hrelay, hsco⟩ := hkeep
  show OpensBorder s (u.scanBegun .border none none).drawNext
  rw [hd]
  exact
    { store := hstore
      relay := hrelay
      scanOut := rfl
      lastHoldExit := (congrArg ScanOut.lastHoldExit hsco :)
      lastWakeEnding := (congrArg ScanOut.lastWakeEnding hsco :)
      lastOpen := by
        show u.pacing.lastOpen.map _ = _
        rw [ho.lastOpen]
        rfl
      link := ⟨_, by
        show (u.link ++ [Marker.scanOpen .border]) ++ [_] = _
        rw [ho.link, List.append_assoc]
        rfl⟩
      flags := fun p => ho.expired p }

/-! ## The relay state's re-evaluation -/

theorem kept_relayChanged (s : State) (old new : RelayState) : (s.relayChanged old new).store = s.store ∧
    (s.relayChanged old new).pacing.repeatSource = s.pacing.repeatSource := by
  unfold State.relayChanged State.beginGrace
  dsimp only
  repeat' split
  all_goals exact ⟨rfl, rfl⟩

theorem kept_reevaluate (s : State) : s.reevaluate.store = s.store ∧
    s.reevaluate.pacing.repeatSource = s.pacing.repeatSource := by
  unfold State.reevaluate
  dsimp only
  split
  · exact ⟨rfl, rfl⟩
  · exact kept_relayChanged _ _ _

theorem noFrames_reevaluate {s : State} (h : s.NoFrames) : s.reevaluate.NoFrames := by
  obtain ⟨hstore, hsource⟩ := kept_reevaluate s
  exact ⟨fun k => by rw [State.slot, hstore]; exact h.free k, hsource.trans h.repeatSource⟩

/-! ## APPLY_PANEL (R10 to R13, R93) -/

theorem exec_applyPanel (e : Env) (p : Port) (data : List Byte) (s : State) (htxn : (s.port p).txn = none)
    (hr : s.hasRight p .panel = true) : exec (.applyPanel e ⟨p, data⟩) s =
      .next ((s.arrive e).requestPanel.1.endTxn p (s.arrive e).requestPanel.2 (zeros data.length)) := by
  show Host.Outcome.next ((s.openPort e p).request p .panel data State.requestPanel) = _
  rw [openPort_of_no_txn _ _ _ htxn, request_granted _ _ _ _ _ ((arrive_hasRight s e p .panel).trans hr)]

theorem requestPanel_of_waiting (s : State) (h : s.relay.waitingPanel ≠ none) : s.requestPanel = (s, .waiting) :=
  if_pos (Option.isSome_iff_ne_none.mpr h)

theorem requestPanel_of_invalid (s : State) (h : s.relay.waitingPanel = none) (hv : s.peu.pendingPanel.valid = false) :
    s.requestPanel = (s, .invalid) := by
  rw [State.requestPanel, h, hv]
  rfl

theorem requestPanel_of_valid (s : State) (h : s.relay.waitingPanel = none) (hv : s.peu.pendingPanel.valid = true) :
    s.requestPanel = (if s.relay.state = .idle then
      (State.leaveIdle { s with relay.waitingPanel := some s.peu.pendingPanel }).settle s
      else State.triggerExit { s with relay.waitingPanel := some s.peu.pendingPanel } .panelApply, .ok) := by
  rw [State.requestPanel, h, hv]
  rfl

/-- The first panel contract: frame memory is divided for it, and CONTRACT_APPLIED is raised. -/
theorem installPanel_first (s : State) (c : PanelContract) (hw : s.relay.waitingPanel = some c)
    (hp : s.relay.panel = none) : s.installPanel.NoFrames ∧ s.installPanel.store.usable = usableFor c ∧
      ∀ q, ((s.installPanel.port q).flags .contractApplied).pending = true := by
  let u := State.raise { s with relay.panel := some c, relay.waitingPanel := none } .contractApplied (causeDetail 2 0)
  have hi : s.installPanel = u.relayout c := by
    simp only [State.installPanel, hw, hp]
    rfl
  obtain ⟨hslot, _, husable⟩ := relayout_store u c
  rw [hi]
  refine ⟨⟨fun k => by rw [hslot]; rfl, rfl⟩, husable, fun q => (even_relayout u c).pending q _ ?_⟩
  rw [port_raise, flags_enter_same, pending_enter]

/-- As the relay leaves IDLE with its first panel contract, a scan opens with the relay out of IDLE and no frame stored. -/
theorem leaveIdle_opens (s : State) (c : PanelContract) (hw : s.relay.waitingPanel = some c)
    (hp : s.relay.panel = none) (hlink : s.link = []) :
    ∃ v : State, s.leaveIdle = v.openScan ∧ v.NoFrames ∧ v.relay.waitingPanel = none ∧ v.relay.panel = some c ∧
      v.relay.state ≠ .idle ∧ v.store.usable = usableFor c ∧ v.link = [] ∧
      ∀ q, ((v.port q).flags .contractApplied).pending = true := by
  obtain ⟨hnone, husable, hflag⟩ := installPanel_first s c hw hp
  have heven := even_installPanel s
  have hv := steady_reevaluate s.installPanel
  have hpanel : s.installPanel.relay.panel = some c := by rw [heven.panel, takePanel_panel, hw]; rfl
  have hframes := noFrames_reevaluate hnone
  refine ⟨{ s.installPanel.reevaluate with sco.state := .ready }, rfl, ⟨hframes.free, hframes.repeatSource⟩,
    hv.waitingPanel.trans (heven.waitingPanel.trans (takePanel_waiting s)), hv.panel.trans hpanel, ?_,
    hv.usable.trans husable, hv.link.trans (heven.link.trans ((takePanel_frame s).1.trans hlink)),
    fun q => hv.pending q _ (hflag q)⟩
  show s.installPanel.reevaluate.relay.state ≠ .idle
  rw [(relay_state_reevaluate s.installPanel).1, Ne, properRelayState_idle, hpanel]
  exact nofun

/-- The first panel contract takes effect: a BORDER scan opens with every slot FREE. -/
theorem leaveIdle_settle (s before : State) (c : PanelContract) (hw : s.relay.waitingPanel = some c)
    (hp : s.relay.panel = none) (hlink : s.link = []) :
    (s.leaveIdle.settle before).relay.panel = some c ∧ (s.leaveIdle.settle before).relay.waitingPanel = none ∧
    (s.leaveIdle.settle before).relay.state ≠ .idle ∧ (s.leaveIdle.settle before).store.usable = usableFor c ∧
    (∀ k, ((s.leaveIdle.settle before).slot k).state = .free) ∧ (s.leaveIdle.settle before).sco.state = .scanning ∧
    (s.leaveIdle.settle before).link.head? = some (.scanOpen .border) ∧
    ∀ q, (((s.leaveIdle.settle before).port q).flags .contractApplied).pending = true := by
  obtain ⟨v, hopen, hnone, hwait, hpanel, hstate, husable, hempty, hflag⟩ := leaveIdle_opens s c hw hp hlink
  have hpend := (openScan_opens v).pending
  rw [openScan_of_noFrames hnone hwait] at hopen hpend
  have hb := openAs_border v
  rw [hopen]
  generalize v.openAs .border none none = w at hb hpend
  obtain ⟨pixels, hsent⟩ := hb.link
  have hoff := offMemory_settle_of_scanning w before hb.scanOut
  rw [relay_of_offMemory hoff, store_of_offMemory hoff, sco_of_offMemory hoff, link_of_offMemory hoff, hb.relay, hb.store,
    hsent, hempty]
  refine ⟨hpanel, hwait, hstate, husable, fun k => ?_, hb.scanOut, rfl, fun q => ?_⟩
  · rw [slot_of_offMemory hoff, State.slot, hb.store]
    exact hnone.free k
  · rw [flags_of_offMemory hoff]
    exact hpend q _ (hflag q)

/-- Settles O43. -/
theorem applyPanelAnswers : Obligations.ApplyPanelAnswers := by
  intro e p data s htxn hr
  have hexec := exec_applyPanel e p data s htxn hr
  have hrelay := arrive_relay s e
  have hsco := arrive_sco s e
  have hlink := arrive_link s e
  have hpending : (s.arrive e).peu.pendingPanel = s.peu.pendingPanel := congrArg Peu.pendingPanel (arrive_peu s e)
  generalize hu : s.arrive e = u at hexec hrelay hsco hlink hpending
  refine ⟨fun hw => ?_, fun hw hv => ?_, fun hw hv => ⟨fun hi hh => ?_, fun hi hp => ?_⟩⟩
  · rw [hexec, requestPanel_of_waiting u (by rw [hrelay]; exact hw)]
  · rw [hexec, requestPanel_of_invalid u (by rw [hrelay]; exact hw) (by rw [hpending]; exact hv)]
  · have htrigger : State.triggerExit { u with relay.waitingPanel := some u.peu.pendingPanel } .panelApply =
        { u with relay.waitingPanel := some u.peu.pendingPanel } :=
      if_neg fun h => hh ((congrArg ScanOut.state hsco :).symm.trans h)
    rw [hexec, requestPanel_of_valid u (by rw [hrelay]; exact hw) (by rw [hpending]; exact hv), htrigger, hpending,
      if_neg (by rw [hrelay]; exact hi)]
  · rw [requestPanel_of_valid u (by rw [hrelay]; exact hw) (by rw [hpending]; exact hv), hpending,
      if_pos (by rw [hrelay]; exact hi)] at hexec
    have hleave := leaveIdle_settle { u with relay.waitingPanel := some s.peu.pendingPanel } u s.peu.pendingPanel rfl
      ((congrArg Relay.panel hrelay :).trans hp) hlink
    generalize (State.leaveIdle { u with relay.waitingPanel := some s.peu.pendingPanel }).settle u = v at hexec hleave
    obtain ⟨hpanel, hwait, hstate, husable, hfree, hscan, hopen, hflag⟩ := hleave
    refine ⟨_, hexec, ?_, hpanel, hwait, hstate, husable, hfree, hscan, hopen, fun q =>
      (steady_endTxn _ _ _ _).pending q _ (hflag q)⟩
    rw [port_endTxn_same]
    rfl

end Sys2Proof.Machine
end

section
/-! The relay reset (R18, R43, R68, R94, R108, R142, R148, R157). -/
namespace Sys2Proof.Machine

/-! ## The arbiter and the receiver -/

theorem lra_grantOnce (s : State) : s.grantOnce.lra = s.lra := by
  unfold State.grantOnce
  split
  · rfl
  · split
    · rfl
    · split
      · rfl
      · split
        · rfl
        · split
          · unfold State.grantCapture
            split
            · rfl
            · dsimp only
              split <;> rfl
          · rfl

theorem lra_arbitrate (s : State) : s.arbitrate.lra = s.lra := by
  have h : ∀ n (u : State), (State.arbitrateFor n u).lra = u.lra := by
    intro n
    induction n with
    | zero => exact fun _ => rfl
    | succ n ih =>
      intro u
      unfold State.arbitrateFor
      split
      · rw [ih, lra_grantOnce]
      · rfl
  exact h 3 s

/-- An empty staging queue stays empty. -/
theorem staging_settleMemory (s : State) (hs : s.sco.state ≠ .holding) (h : s.lra.staging = []) :
    s.settleMemory.lra.staging = [] := by
  have hd : s.dropDeadHeads.lra.staging = [] := by
    unfold State.dropDeadHeads
    split
    · exact h
    · exact congrArg (List.dropWhile _) h
  rw [settleMemory_of_not_holding s hs, lra_arbitrate, hd]

/-! ## The parts of the reset -/

/-- The state but for what an aborted scan-out leaves of the scan, the link, the memory port and the slots. -/
def State.offScan (s : State) : State :=
  { s with sco := ScanOut.reset, link := [], mpt := MemPort.reset, store.slots := Vector.replicate 5 Slot.reset }

theorem offScan_abortScanOut (s : State) : s.abortScanOut.offScan = s.offScan := by
  unfold State.abortScanOut State.endScan State.wakeMemory
  split
  · rfl
  · rfl
  · split
    · split <;> rfl
    · rfl
  · split <;> rfl
  · rfl

/-- The reset of the frame store does not reach beyond it, the memory port and open capture transactions. -/
theorem offMemory_resetStore (s : State) : s.resetStore.offMemory = State.offMemory { s with
    store.slots := Vector.replicate 5 Slot.reset, store.pins := { system := none, link := none } } := by
  have h : ∀ (u : State) p, (u.dropCapture p).offMemory = u.offMemory := fun u p => by
    unfold State.dropCapture
    split
    · exact offMemory_endCapture u p _ _
    · rfl
  rw [State.resetStore, State.dropCaptures, h, h]

/-- The state but for what a re-evaluation of the relay state changes. -/
def State.offRelay (s : State) : State :=
  { s with
    relay.state := .idle, relay.reason := .none, relay.graceFlag := false, relay.graceEnd := none
    pacing.holdReference := none, pacing.planned := [], pacing.planM := 0, pacing.planR := 0
    pacing.waitingRepeat := false, peu.ports := { system := PortCtl.reset, link := PortCtl.reset } }

theorem offRelay_reevaluate (s : State) : s.reevaluate.offRelay = s.offRelay := by
  have hc : ∀ (u : State) old new, (u.relayChanged old new).offRelay = u.offRelay := fun u old new => by
    unfold State.relayChanged State.beginGrace
    dsimp only
    repeat' split
    all_goals rfl
  unfold State.reevaluate
  dsimp only
  split
  · rfl
  · exact hc _ _ _

/-- With no grace running and no accepted frame to count it from, a change of relay state begins none, and a hold
reference stamp of now stays one. -/
theorem grace_relayChanged (s : State) (old new : RelayState) (hf : s.relay.graceFlag = false)
    (ha : s.relay.lastAccepted = none) (hr : s.pacing.holdReference = some s.relayTime) :
    (s.relayChanged old new).relay.graceFlag = false ∧
      (s.relayChanged old new).pacing.holdReference = some s.relayTime := by
  have hg : ∀ u : State, u.relay.lastAccepted = none → u.beginGrace = u := fun u h => by rw [State.beginGrace, h]
  unfold State.relayChanged
  dsimp only
  rw [hg _ (by split <;> exact ha)]
  repeat' split
  all_goals simp [State.clearPlanned, hf, hr]

theorem grace_reevaluate (s : State) (hf : s.relay.graceFlag = false) (ha : s.relay.lastAccepted = none)
    (hr : s.pacing.holdReference = some s.relayTime) :
    s.reevaluate.relay.graceFlag = false ∧ s.reevaluate.pacing.holdReference = some s.relayTime := by
  unfold State.reevaluate
  dsimp only
  split
  · exact ⟨hf, hr⟩
  · exact grace_relayChanged { s with relay.state := s.properRelayState, relay.reason := s.properReason } _ _ hf ha hr

/-! ## What the reset leaves -/

/-- The reset of every part, before what follows from it. -/
def State.resetParts (s : State) : State :=
  s.abortScanOut.resetStore.resetLra.resetPacing.resetRecords.resetRelay

/-- The registers after the reset: those of the receiver, of the relay controller, of the pacing engine, and those kept. -/
structure ResetLeaves (s t : State) : Prop where
  lra : t.lra = { s.lra with
    lanes := s.lra.lanes.map fun x => x.activate.clearRuns
    staging := [], aligner := .search, searchRun := 0, assembly := .gap, frame := none, lineBuffer := []
    testOn := false, excessWords := 0, excessLines := 0, prevFrameNumber := none }
  input : t.relay.input = s.relay.input
  panel : t.relay.panel = s.relay.panel
  waitingInput : t.relay.waitingInput = none
  waitingPanel : t.relay.waitingPanel = none
  lastMode : t.relay.lastMode = none
  repeatSource : t.pacing.repeatSource = none
  lastOpen : t.pacing.lastOpen = s.pacing.lastOpen
  records : t.records = { s.records with repeatTally := 0, stats := Stats.reset }
  ovl : t.ovl = s.ovl
  relayTime : t.relayTime = s.relayTime
  idlePassed : t.idlePassed = s.idlePassed
  usable : t.store.usable = s.store.usable

/-- The reset of all parts but the scan-out and the frame store, up to the re-evaluation of the relay state. -/
def State.partsCleared (s : State) : State :=
  { s.resetLra.resetPacing.resetRecords with
    relay.waitingInput := none, relay.waitingPanel := none, relay.refused := false, relay.graceFlag := false
    relay.graceEnd := none, relay.lastMode := none, relay.lastAccepted := none }

/-- What a reset of all parts but the scan-out and the frame store leaves. -/
theorem partsCleared_eq (s : State) : s.partsCleared = { s with
    lra := { s.lra with
      lanes := s.lra.lanes.map fun x => x.activate.clearRuns
      staging := [], aligner := .search, searchRun := 0, assembly := .gap, frame := none, lineBuffer := []
      testOn := false, excessWords := 0, excessLines := 0, prevFrameNumber := none }
    relay := { s.relay with
      waitingInput := none, waitingPanel := none, refused := false, graceFlag := false, graceEnd := none
      lastMode := none, lastAccepted := none }
    pacing := s.resetPacing.pacing
    mpt := s.emptyStaging.mpt
    records := { s.records with repeatTally := 0, stats := Stats.reset } } := by
  simp only [State.partsCleared, State.resetRecords, State.resetPacing, State.resetLra, State.mapLanes, State.emptyStaging,
    State.clearPlanned]

theorem resetParts_eq (s : State) : s.resetParts = s.abortScanOut.resetStore.partsCleared.reevaluate := rfl

section
variable (s : State)

theorem partsCleared_store : s.partsCleared.store = s.store := by rw [partsCleared_eq]
theorem partsCleared_now : s.partsCleared.relayTime = s.relayTime := by rw [partsCleared_eq]
theorem partsCleared_lra : s.partsCleared.lra = { s.lra with
    lanes := s.lra.lanes.map fun x => x.activate.clearRuns
    staging := [], aligner := .search, searchRun := 0, assembly := .gap, frame := none, lineBuffer := []
    testOn := false, excessWords := 0, excessLines := 0, prevFrameNumber := none } := by rw [partsCleared_eq]
theorem partsCleared_relay : s.partsCleared.relay = { s.relay with
    waitingInput := none, waitingPanel := none, refused := false, graceFlag := false, graceEnd := none
    lastMode := none, lastAccepted := none } := by rw [partsCleared_eq]
theorem partsCleared_holdReference : s.partsCleared.pacing.holdReference = some s.relayTime := by
  rw [partsCleared_eq]
  rfl
theorem partsCleared_port (p : Port) : s.partsCleared.port p = s.port p := by rw [partsCleared_eq]; rfl

end

/-- A reset scan-out and frame store leave every other register. -/
theorem others_resetStore (s : State) :
    State.offMemory s.abortScanOut.resetStore.offScan = State.offMemory { s.offScan with
      store.pins := { system := none, link := none } } := by
  have hm := congrArg State.offScan (offMemory_resetStore s.abortScanOut)
  have ha := congrArg (fun x : State => State.offMemory { x with store.pins := { system := none, link := none } })
    (offScan_abortScanOut s)
  exact Eq.trans hm ha

theorem resetLeaves_resetParts (s : State) : ResetLeaves s s.resetParts := by
  have hb := others_resetStore s
  rw [resetParts_eq]
  generalize s.abortScanOut.resetStore = b at hb
  have hr := offRelay_reevaluate b.partsCleared
  have hlra : { b.lra with staging := [] } = { s.lra with staging := [] } := (congrArg State.lra hb :)
  generalize b.partsCleared.reevaluate = t at hr
  rw [partsCleared_eq] at hr
  exact
    { lra := Eq.trans (congrArg State.lra hr :) (congrArg (fun x : Lra => { x with
        lanes := x.lanes.map fun l => LaneRec.clearRuns (LaneRec.activate l)
        aligner := .search, searchRun := 0, assembly := .gap, frame := none, lineBuffer := []
        testOn := false, excessWords := 0, excessLines := 0, prevFrameNumber := none }) hlra)
      input := Eq.trans (congrArg (fun x : State => x.relay.input) hr :) (congrArg (fun x : State => x.relay.input) hb :)
      panel := Eq.trans (congrArg (fun x : State => x.relay.panel) hr :) (congrArg (fun x : State => x.relay.panel) hb :)
      waitingInput := (congrArg (fun x : State => x.relay.waitingInput) hr :)
      waitingPanel := (congrArg (fun x : State => x.relay.waitingPanel) hr :)
      lastMode := (congrArg (fun x : State => x.relay.lastMode) hr :)
      repeatSource := (congrArg (fun x : State => x.pacing.repeatSource) hr :)
      lastOpen := Eq.trans (congrArg (fun x : State => x.pacing.lastOpen) hr :) (congrArg (fun x : State => x.pacing.lastOpen) hb :)
      records := Eq.trans (congrArg State.records hr :)
        (congrArg (fun x : State => { x.records with repeatTally := 0, stats := Stats.reset }) hb :)
      ovl := Eq.trans (congrArg State.ovl hr :) (congrArg State.ovl hb :)
      relayTime := Eq.trans (congrArg State.relayTime hr :) (congrArg State.relayTime hb :)
      idlePassed := Eq.trans (congrArg State.idlePassed hr :) (congrArg State.idlePassed hb :)
      usable := Eq.trans (congrArg (fun x : State => x.store.usable) hr :)
        (congrArg (fun x : State => x.store.usable) hb :) }

/-- The scan-out and the link are as the abort leaves them. -/
theorem scanOut_resetParts (s : State) : s.resetParts.sco = s.abortScanOut.sco ∧ s.resetParts.link = s.abortScanOut.link := by
  have hm := offMemory_resetStore s.abortScanOut
  rw [resetParts_eq]
  generalize s.abortScanOut.resetStore = b at hm
  generalize s.abortScanOut = a at hm
  have hr := offRelay_reevaluate b.partsCleared
  generalize b.partsCleared.reevaluate = t at hr
  rw [partsCleared_eq] at hr
  exact ⟨Eq.trans (congrArg State.sco hr :) (congrArg State.sco hm :),
    Eq.trans (congrArg State.link hr :) (congrArg State.link hm :)⟩

/-- Every slot FREE with its reset values, and no pin. -/
theorem frames_resetParts (s : State) : (∀ k, s.resetParts.slot k = Slot.reset) ∧
    ∀ p, s.resetParts.store.pins.get p = none := by
  obtain ⟨hslot, hpins⟩ := resetStore_store s.abortScanOut
  rw [resetParts_eq]
  generalize s.abortScanOut.resetStore = b at hslot hpins
  have hstore := (kept_reevaluate b.partsCleared).1.trans (partsCleared_store b)
  exact ⟨fun k => by rw [State.slot, hstore]; exact hslot k, fun p => by rw [hstore]; exact hpins p⟩

theorem noFrames_resetParts (s : State) : s.resetParts.NoFrames :=
  ⟨fun k => by rw [(frames_resetParts s).1 k]; rfl, (resetLeaves_resetParts s).repeatSource⟩

/-- The hold reference stamp is set, and no grace runs. -/
theorem grace_resetParts (s : State) : s.resetParts.relay.graceFlag = false ∧
    s.resetParts.pacing.holdReference = some s.relayTime := by
  have hb := others_resetStore s
  rw [resetParts_eq]
  generalize s.abortScanOut.resetStore = b at hb
  have hnow : b.relayTime = s.relayTime := (congrArg State.relayTime hb :)
  have h := grace_reevaluate b.partsCleared (by rw [partsCleared_relay]) (by rw [partsCleared_relay])
    (by rw [partsCleared_holdReference, partsCleared_now])
  rwa [partsCleared_now, hnow] at h

/-- With a panel contract the relay is in BORDER for want of lock. -/
theorem relayState_resetParts (s : State) (h : s.relay.panel ≠ none) :
    s.resetParts.relay.state = .border ∧ s.resetParts.relay.reason = .noLock := by
  have hb := others_resetStore s
  rw [resetParts_eq]
  generalize s.abortScanOut.resetStore = b at hb
  have hpanel : b.relay.panel = s.relay.panel := (congrArg (fun x : State => x.relay.panel) hb :)
  have hc : b.partsCleared.borderCondition = .noLock := by
    rw [State.borderCondition, State.sourceAbsent, partsCleared_lra]
    rfl
  have hs : b.partsCleared.properRelayState = .border := by
    rw [State.properRelayState, partsCleared_relay, if_neg (by rw [← hpanel] at h; exact h), hc]
    rfl
  obtain ⟨hstate, hreason⟩ := relay_state_reevaluate b.partsCleared
  refine ⟨hstate.trans hs, hreason.trans ?_⟩
  rw [State.properReason, if_pos hs, hc]

theorem flags_abortScanOut (s : State) (p : Port) : (s.abortScanOut.port p).flags = (s.port p).flags :=
  (congrArg (fun x : State => (x.port p).flags) (offScan_abortScanOut s) :)

/-- No cause of a pin's end is raised. -/
theorem expired_resetParts (s : State) (p : Port) :
    (s.resetParts.port p).flags .pinExpired = (s.port p).flags .pinExpired := by
  have hb := flags_of_offMemory (offMemory_resetStore s.abortScanOut) p .pinExpired
  rw [resetParts_eq, (steady_reevaluate _).expired, partsCleared_port]
  exact hb.trans (congrFun (flags_abortScanOut s p) _)

/-! ## What follows the reset -/

theorem requestReset_eq (s : State) : s.requestReset = ((s.resetParts.deadlineAtReady s).settle s, .ok) := rfl

/-- No scan opens at a reset whose repeat deadline is not due, nor away from READY. -/
theorem requestReset_of_not_due (s : State) (h : s.resetParts.sco.state ≠ .ready ∨ s.resetParts.repeatDue = false) :
    s.requestReset = (s.resetParts.settleMemory, .ok) := by
  have hno : ∀ q, ¬ (q ∧ s.resetParts.sco.state = .ready ∧ s.resetParts.repeatDue = true) := fun q ⟨_, hr, hd⟩ =>
    h.elim (fun hn => hn hr) fun hf => by rw [hf] at hd; exact Bool.false_ne_true hd
  have hd : s.resetParts.deadlineAtReady s = s.resetParts := if_neg (hno _)
  have hs : s.resetParts.respan s = s.resetParts := if_neg fun hc => hno True ⟨trivial, hc.2.2⟩
  have he : s.resetParts.evaluateStart = s.resetParts :=
    if_neg fun hc => hc.2.2 (candidate_of_free (noFrames_resetParts s).free _)
  rw [requestReset_eq, hd, State.settle, hs, he]

/-- The abort leaves no hold. -/
theorem abortScanOut_not_holding (s : State) : s.abortScanOut.sco.state ≠ .holding := by
  unfold State.abortScanOut
  split
  · rename_i h; rw [h]; decide
  · rename_i h; rw [h]; decide
  · rename_i h
    split
    · rw [sco_endScan]; exact nofun
    · rw [h]; decide
  · unfold State.wakeMemory
    split <;> exact nofun
  · exact nofun

theorem resetParts_not_holding (s : State) : s.resetParts.sco.state ≠ .holding := by
  rw [(scanOut_resetParts s).1]
  exact abortScanOut_not_holding s

/-- The idle interval serves after a reset: with the panel contract the relay is in BORDER without grace. -/
theorem usesIdle_resetParts (s : State) (h : s.relay.panel ≠ none) : s.resetParts.usesIdle = true := by
  rw [State.usesIdle, (relayState_resetParts s h).1, (grace_resetParts s).1]
  rfl

/-- While the idle interval has not passed, no repeat deadline is due at a reset. -/
theorem repeatDue_resetParts (s : State) (e : Env) (h : s.relay.panel ≠ none) (hi : (s.arrive e).idlePassed = false) :
    (s.arrive e).resetParts.repeatDue = false := by
  have hr := resetLeaves_resetParts (s.arrive e)
  have hu := usesIdle_resetParts (s.arrive e) (by rw [arrive_relay]; exact h)
  have hl : (s.arrive e).resetParts.pacing.lastOpen = s.pacing.lastOpen := by rw [hr.lastOpen, arrive_pacing]
  rw [State.repeatDue, State.repeatDeadline, hu, hr.relayTime, hr.idlePassed, hi, hl]
  cases ho : s.pacing.lastOpen with
  | none => rfl
  | some o =>
    have hlt := arrive_idle_lt s e o ho hi
    rw [Bool.and_false, Bool.or_false]
    exact decide_eq_false (Nat.not_le.mpr hlt)

/-- A reset that ends a hold comes before its own hold delay: it opens a BORDER scan when its deadline is due. -/
theorem requestReset_of_holding (s : State) (hs : s.sco.state = .holding) (hp : s.relay.panel ≠ none)
    (hd : 1 ≤ s.contract.holdDelay) (hi : s.idlePassed = true) :
    s.requestReset = ((s.resetParts.openAs .border none none).settleMemory, .ok) := by
  have hr := resetLeaves_resetParts s
  have hready : s.resetParts.sco.state = .ready := by
    rw [(scanOut_resetParts s).1, State.abortScanOut, hs]
    dsimp only
    unfold State.wakeMemory
    split <;> rfl
  have hdue : s.resetParts.repeatDue = true := by
    rw [State.repeatDue, usesIdle_resetParts s hp, hr.idlePassed, hi, Bool.and_true, Bool.or_true]
  have hc : s.resetParts.contract = s.contract := by rw [State.contract, hr.panel]; rfl
  have hdelay : s.resetParts.holdDelayPassed = false := by
    rw [State.holdDelayPassed, (grace_resetParts s).2, hr.relayTime, hc]
    simp only [since, BitVec.sub_self, decide_eq_false_iff_not]
    exact Nat.not_le.mpr hd
  have hhold : ¬ s.resetParts.mayHold = true := by
    rw [State.mayHold, hdelay]
    simp
  have ho : s.resetParts.deadlineAtReady s = s.resetParts.openAs .border none none := by
    rw [State.deadlineAtReady, if_pos ⟨by rw [hs]; decide, hready, hdue⟩, State.holdOrOpen, if_neg hhold,
      openScan_of_noFrames (noFrames_resetParts s) hr.waitingPanel]
  rw [requestReset_eq, ho, settle_of_not_ready _ _ (by rw [(openAs_border _).scanOut]; decide)]

/-! ## RELAY_RESET -/

theorem exec_relayReset (e : Env) (p : Port) (data : List Byte) (s : State) (htxn : (s.port p).txn = none)
    (hr : s.hasRight p .relayReset = true) : exec (.relayReset e ⟨p, data⟩) s =
      .next ((s.arrive e).requestReset.1.endTxn p (s.arrive e).requestReset.2 (zeros data.length)) := by
  show Host.Outcome.next ((s.openPort e p).request p .relayReset data State.requestReset) = _
  rw [openPort_of_no_txn _ _ _ htxn, request_granted _ _ _ _ _ ((arrive_hasRight s e p .relayReset).trans hr)]

/-- Nothing of the reset's registers changes in what follows it, while no scan opens. -/
theorem resetLeaves_settleMemory (s : State) : ResetLeaves s s.resetParts.settleMemory := by
  have h := resetLeaves_resetParts s
  have hh := resetParts_not_holding s
  have hoff := offMemory_settleMemory _ hh
  have hstaging := staging_settleMemory _ hh (by rw [h.lra])
  generalize s.resetParts.settleMemory = t at hoff hstaging
  have hrelay := relay_of_offMemory hoff
  have hpacing := pacing_of_offMemory hoff
  have hlra : { t.lra with staging := [] } = { s.resetParts.lra with staging := [] } := (congrArg State.lra hoff :)
  have hempty : t.lra = { t.lra with staging := [] } := by rw [← hstaging]
  exact
    { lra := by rw [hempty, hlra, h.lra]
      input := by rw [hrelay, h.input]
      panel := by rw [hrelay, h.panel]
      waitingInput := by rw [hrelay, h.waitingInput]
      waitingPanel := by rw [hrelay, h.waitingPanel]
      lastMode := by rw [hrelay, h.lastMode]
      repeatSource := by rw [hpacing, h.repeatSource]
      lastOpen := by rw [hpacing, h.lastOpen]
      records := by rw [records_of_offMemory hoff, h.records]
      ovl := by rw [ovl_of_offMemory hoff, h.ovl]
      relayTime := Eq.trans (congrArg State.relayTime hoff :) h.relayTime
      idlePassed := Eq.trans (congrArg State.idlePassed hoff :) h.idlePassed
      usable := by rw [store_of_offMemory hoff, h.usable] }

theorem abortScanOut_of_scanning (s : State) (c : Scan) (hs : s.sco.state = .scanning) (hc : s.sco.scan = some c) :
    s.abortScanOut.sco = { s.sco with scan := none, state := .ready, lastScan := some (c.summary .aborted) } ∧
      s.abortScanOut.link = s.link ++ [.scanAbort] := by
  have h : s.abortScanOut = (s.send .scanAbort).endScan c .aborted := by
    rw [State.abortScanOut, hs, hc]
  rw [h]
  exact ⟨sco_endScan _ c _, (steady_endScan _ c _).link⟩

theorem abortScanOut_of_holding (s : State) (hs : s.sco.state = .holding) :
    s.abortScanOut.sco.lastHoldExit = some (s.relayTime, .relayReset) ∧
      s.abortScanOut.sco.lastWakeEnding = some .reset ∧ s.abortScanOut.link = s.link ++ [.holdExit] := by
  rw [State.abortScanOut, hs]
  dsimp only
  unfold State.wakeMemory
  split <;> exact ⟨rfl, rfl, rfl⟩

theorem quiet_abortScanOut (s : State) (h : s.sco.state = .quiet) : s.abortScanOut = s := by
  rw [State.abortScanOut, h]

theorem kept_port_endTxn (s : State) (p q : Port) (st : Status) (data : List Byte) :
    ((s.endTxn p st data).port q).enables = (s.port q).enables ∧ ((s.endTxn p st data).port q).frozen = (s.port q).frozen ∧
      ((s.endTxn p st data).port q).flags = (s.port q).flags := by
  by_cases h : q = p
  · subst h; rw [port_endTxn_same]; exact ⟨rfl, rfl, rfl⟩
  · rw [port_endTxn_other _ _ _ _ _ h]; exact ⟨rfl, rfl, rfl⟩

theorem kept_port_of_outer {s t : State} (h : t.outer = s.outer) (q : Port) :
    (t.port q).enables = (s.port q).enables ∧ (t.port q).frozen = (s.port q).frozen := by
  have he : ∀ u : State, u.outer.enables.get q = (u.port q).enables ∧ u.outer.frozen.get q = (u.port q).frozen :=
    fun u => by cases q <;> exact ⟨rfl, rfl⟩
  rw [← (he t).1, ← (he t).2, ← (he s).1, ← (he s).2, h]
  exact ⟨rfl, rfl⟩

/-- A reset that ends a hold whose idle interval has passed. -/
theorem relayReset_endsHold (e : Env) (p : Port) (data : List Byte) (s : State) (htxn : (s.port p).txn = none)
    (hright : s.hasRight p .relayReset = true) (hs : s.sco.state = .holding) (hp : s.relay.panel ≠ none)
    (hd : 1 ≤ s.contract.holdDelay) (hi : (s.arrive e).idlePassed = true) :
    ∃ t pixels, exec (.relayReset e ⟨p, data⟩) s = .next t ∧ (t.port p).prevStatus = .ok ∧
      t.sco.state = .scanning ∧ t.link = [.holdExit, .scanOpen .border, .line 0 pixels] ∧
      t.sco.lastHoldExit = some ((s.arrive e).relayTime, .relayReset) ∧ t.sco.lastWakeEnding = some .reset ∧
      (t.pacing.lastOpen.map fun x => (x.time, x.kind)) = some ((s.arrive e).relayTime, .border) ∧
      (∀ k, t.slot k = Slot.reset) ∧ (∀ q, t.store.pins.get q = none) ∧
      ∀ q, (t.port q).flags .pinExpired = (s.port q).flags .pinExpired := by
  have hexec := exec_relayReset e p data s htxn hright
  have hs' : (s.arrive e).sco.state = .holding := by rw [arrive_sco]; exact hs
  have hopen := requestReset_of_holding (s.arrive e) hs' (by rw [arrive_relay]; exact hp)
    (by rw [arrive_contract]; exact hd) hi
  obtain ⟨hslot, hpins⟩ := frames_resetParts (s.arrive e)
  obtain ⟨hsco, hlink⟩ := scanOut_resetParts (s.arrive e)
  obtain ⟨hexit, hending, hsent⟩ := abortScanOut_of_holding (s.arrive e) hs'
  have hnow := (resetLeaves_resetParts (s.arrive e)).relayTime
  have hexpired := expired_resetParts (s.arrive e)
  rw [hopen] at hexec
  dsimp only at hexec
  rw [← hsco] at hexit hending
  rw [← hlink, arrive_link] at hsent
  generalize (s.arrive e).resetParts = u at *
  have hb := openAs_border u
  generalize u.openAs .border none none = v at *
  obtain ⟨pixels, hline⟩ := hb.link
  have hoff := offMemory_settleMemory v (by rw [hb.scanOut]; decide)
  generalize v.settleMemory = t at *
  refine ⟨_, pixels, hexec, ?_, ?_, ?_, ?_, ?_, ?_, fun k => ?_, fun q => ?_, fun q => ?_⟩
  · rw [port_endTxn_same]; rfl
  · rw [endTxn_sco, sco_of_offMemory hoff, hb.scanOut]
  · rw [endTxn_link, link_of_offMemory hoff, hline, hsent]; rfl
  · rw [endTxn_sco, sco_of_offMemory hoff, hb.lastHoldExit, hexit]
  · rw [endTxn_sco, sco_of_offMemory hoff, hb.lastWakeEnding, hending]
  · rw [endTxn_pacing, pacing_of_offMemory hoff, hb.lastOpen, hnow]
  · refine (slot_of_offMemory hoff k).trans ?_
    rw [State.slot, hb.store]
    exact hslot k
  · rw [endTxn_store, store_of_offMemory hoff, hb.store, hpins]
  · exact (congrFun (kept_port_endTxn t p q _ _).2.2 _).trans ((flags_of_offMemory hoff q _).trans
      ((hb.flags q).trans ((hexpired q).trans (by rw [arrive_port]))))

/-- Settles O50: without an open only the memory port follows the reset; the end of a hold brings a BORDER scan. -/
theorem relayResetFreesEverySlot : Obligations.RelayResetFreesEverySlot := by
  refine ⟨fun e p data s htxn hright hcase => ?_, fun e o s ho => ?_, fun e p data s htxn hright hs hp hd hi => ?_⟩
  · have hexec := exec_relayReset e p data s htxn hright
    have hnot : (s.arrive e).resetParts.sco.state ≠ .ready ∨ (s.arrive e).resetParts.repeatDue = false := by
      rcases hcase with ⟨hq, _⟩ | ⟨_, hp, hi⟩
      · refine .inl ?_
        have hq' : (s.arrive e).sco.state = .quiet := by rw [arrive_sco]; exact hq
        rw [(scanOut_resetParts _).1, quiet_abortScanOut _ hq', hq']
        decide
      · exact .inr (repeatDue_resetParts s e hp hi)
    have houter : (s.arrive e).requestReset.1.outer = s.outer := (outer_requestReset _).trans (arrive_outer s e)
    rw [requestReset_of_not_due _ hnot] at hexec houter
    have hleft := resetLeaves_settleMemory (s.arrive e)
    have hoff := offMemory_settleMemory _ (resetParts_not_holding (s.arrive e))
    obtain ⟨hslot, hpins⟩ := frames_resetParts (s.arrive e)
    obtain ⟨hgrace, hhold⟩ := grace_resetParts (s.arrive e)
    obtain ⟨hsco, hlink⟩ := scanOut_resetParts (s.arrive e)
    have hstate := relayState_resetParts (s.arrive e)
    have hexpired := expired_resetParts (s.arrive e)
    dsimp only at hexec houter
    generalize (s.arrive e).resetParts = u at *
    generalize u.settleMemory = t at *
    refine ⟨_, hexec, ?_, fun c hs hc => ?_, fun k => ?_, fun q => ?_, ?_, congrArg Outer.expiry houter, ?_, ?_, ?_,
      fun l => ?_, ?_, ?_, ?_, ?_, hleft.waitingInput, hleft.waitingPanel, ?_, hleft.lastMode, fun hp => ?_, ?_,
      hleft.repeatSource, ?_, ?_, congrArg Outer.modeWord houter, ?_, congrArg Outer.frameMemory houter, fun q => ?_⟩
    · rw [port_endTxn_same]; rfl
    · obtain ⟨habort, hsent⟩ := abortScanOut_of_scanning (s.arrive e) c (by rw [arrive_sco]; exact hs)
        (by rw [arrive_sco]; exact hc)
      rw [endTxn_sco, endTxn_link, sco_of_offMemory hoff, link_of_offMemory hoff, hsco, hlink, habort, hsent, arrive_link]
      exact ⟨rfl, rfl, rfl, rfl⟩
    · exact (slot_of_offMemory hoff k).trans (hslot k)
    · rw [endTxn_store, store_of_offMemory hoff, hpins]
    · rw [endTxn_store, hleft.usable, arrive_usable]
    · rw [endTxn_lra, hleft.lra]
    · rw [endTxn_lra, hleft.lra]
    · rw [endTxn_lra, hleft.lra]
    · show (t.lra.lanes.get l).state = _
      rw [hleft.lra]
      cases l <;> rfl
    · rw [endTxn_lra, hleft.lra, arrive_lra]
    · rw [endTxn_lra, hleft.lra]
    · rw [endTxn_relay, hleft.input, arrive_relay]
    · rw [endTxn_relay, hleft.panel, arrive_relay]
    · rw [endTxn_relay, relay_of_offMemory hoff, hgrace]
    · rw [endTxn_relay, relay_of_offMemory hoff]
      exact hstate (by rw [arrive_relay]; exact hp)
    · rw [endTxn_pacing, pacing_of_offMemory hoff, hhold]
    · rw [endTxn_records, hleft.records, arrive_records]
    · rw [endTxn_records, hleft.records]
    · rw [endTxn_ovl, hleft.ovl, arrive_ovl]
    · obtain ⟨henables, hfrozen, hflags⟩ := kept_port_endTxn t p q .ok (zeros data.length)
      obtain ⟨he, hf⟩ := kept_port_of_outer houter q
      exact ⟨henables.trans he, hfrozen.trans hf, (congrFun hflags _).trans ((flags_of_offMemory hoff q _).trans
        ((hexpired q).trans (by rw [arrive_port])))⟩
  · rw [arrive_idlePassed, idleAfter_iff]
    simp [ho, since]
  · exact relayReset_endsHold e p data s htxn hright hs hp hd hi

end Sys2Proof.Machine
end

section
/-! Byte strings: values most significant byte first, stored pixels, merged writes. -/
namespace Sys2Proof.Machine

/-! ## Values most significant byte first -/

@[simp] theorem length_beBytes (n v : Nat) : (beBytes n v).length = n := by
  induction n with
  | zero => rfl
  | succ n ih => rw [beBytes, List.length_cons, ih]

theorem foldl_beValue (bs : List Byte) (a : Nat) :
    bs.foldl (fun acc b => acc * 256 + b.toNat) a = a * 256 ^ bs.length + beValue bs := by
  induction bs generalizing a with
  | nil => simp [beValue]
  | cons b bs ih =>
    rw [beValue, List.foldl_cons, List.foldl_cons, ih, ih, List.length_cons, pow_succ]
    ring

theorem beValue_cons (b : Byte) (bs : List Byte) : beValue (b :: bs) = b.toNat * 256 ^ bs.length + beValue bs := by
  rw [beValue, List.foldl_cons, foldl_beValue, Nat.zero_mul, Nat.zero_add]

theorem beValue_lt (bs : List Byte) : beValue bs < 256 ^ bs.length := by
  induction bs with
  | nil => exact Nat.one_pos
  | cons b bs ih =>
    have hb : b.toNat < 256 := b.isLt
    rw [beValue_cons, List.length_cons, pow_succ, Nat.mul_comm (256 ^ _)]
    calc b.toNat * 256 ^ bs.length + beValue bs < b.toNat * 256 ^ bs.length + 256 ^ bs.length := Nat.add_lt_add_left ih _
      _ = (b.toNat + 1) * 256 ^ bs.length := by ring
      _ ≤ 256 * 256 ^ bs.length := Nat.mul_le_mul_right _ hb

/-- The bytes of a value give back what of it they have room for. -/
theorem beValue_beBytes (n v : Nat) : beValue (beBytes n v) = v % 256 ^ n := by
  induction n with
  | zero => simp [beBytes, beValue, Nat.mod_one]
  | succ n ih =>
    have hmod : v % 256 ^ (n + 1) = v % 256 ^ n + 256 ^ n * (v / 256 ^ n % 256) := by rw [pow_succ, Nat.mod_mul]
    rw [beBytes, beValue_cons, length_beBytes, ih, BitVec.toNat_ofNat, hmod, Nat.mul_comm]
    exact Nat.add_comm _ _

/-- Bytes are the bytes of their value. -/
theorem beBytes_beValue_add (bs : List Byte) (a : Nat) : beBytes bs.length (a * 256 ^ bs.length + beValue bs) = bs := by
  induction bs generalizing a with
  | nil => rfl
  | cons b bs ih =>
    have hpos : 0 < 256 ^ bs.length := Nat.pow_pos (by decide)
    have hv : a * 256 ^ (bs.length + 1) + (b.toNat * 256 ^ bs.length + beValue bs) =
        (a * 256 + b.toNat) * 256 ^ bs.length + beValue bs := by ring
    have hq : ((a * 256 + b.toNat) * 256 ^ bs.length + beValue bs) / 256 ^ bs.length = a * 256 + b.toNat := by
      rw [Nat.add_comm, Nat.add_mul_div_right _ _ hpos, Nat.div_eq_of_lt (beValue_lt bs), Nat.zero_add]
    rw [beValue_cons, List.length_cons, beBytes, hv, hq, ih]
    congr 1
    apply BitVec.eq_of_toNat_eq
    have hb : b.toNat < 256 := b.isLt
    rw [BitVec.toNat_ofNat]
    omega

theorem beBytes_beValue (bs : List Byte) : beBytes bs.length (beValue bs) = bs := by
  simpa using beBytes_beValue_add bs 0

/-- The last bytes of a value. -/
theorem drop_beBytes (k n v : Nat) : (beBytes (k + n) v).drop k = beBytes n v := by
  induction k with
  | zero => simp
  | succ k ih => rw [Nat.succ_add, beBytes, List.drop_succ_cons, ih]

/-- The first bytes of a value. -/
theorem take_beBytes (n k v : Nat) : (beBytes (n + k) v).take n = beBytes n (v / 256 ^ k) := by
  induction n with
  | zero => rfl
  | succ n ih => rw [Nat.succ_add, beBytes, beBytes, List.take_succ_cons, ih, Nat.div_div_eq_div_mul, ← pow_add, Nat.add_comm k]

/-- The value of bytes in the midst of a value's bytes. -/
theorem beValue_mid (k n m v : Nat) : beValue (((beBytes (k + (n + m)) v).drop k).take n) = v / 256 ^ m % 256 ^ n := by
  rw [drop_beBytes, take_beBytes, beValue_beBytes]

/-! ## Stored pixels (R13) -/

theorem bits_lt (p : Rgb) : Rgb.bits p < 2 ^ 36 := by
  have hr := p.r.isLt
  have hg := p.g.isLt
  have hb := p.b.isLt
  simp only [Rgb.bits]
  omega

/-- A pixel is read from the low 36 bits of a value. -/
theorem rgbOfBits_bits (p : Rgb) (v : Nat) (h : v % 2 ^ 36 = Rgb.bits p) : rgbOfBits v = p := by
  have hr := p.r.isLt
  have hg := p.g.isLt
  have hb := p.b.isLt
  simp only [Rgb.bits] at h
  obtain ⟨r, g, b⟩ := p
  simp only [rgbOfBits, Rgb.mk.injEq]
  refine ⟨BitVec.eq_of_toNat_eq ?_, BitVec.eq_of_toNat_eq ?_, BitVec.eq_of_toNat_eq ?_⟩ <;>
    rw [BitVec.toNat_ofNat] <;> dsimp only at * <;> omega

/-- Pixel x of a line's bytes. -/
def pixelAt (bs : List Byte) (x : Nat) : Rgb :=
  let v := beValue ((bs.drop (36 * x / 8)).take 5)
  if x % 2 = 0 then rgbOfBits (v / 16) else rgbOfBits v

theorem length_packPixels (ps : List Rgb) (tail : Nat) : (packPixels ps tail).length = ceilDiv (9 * ps.length) 2 := by
  induction ps, tail using packPixels.induct with
  | case1 => rfl
  | case2 p tail => simp [packPixels, ceilDiv]
  | case3 tail p q ps ih =>
    rw [packPixels, List.length_append, length_beBytes, ih]
    simp only [ceilDiv, List.length_cons]
    omega

theorem mid_append_left (as bs : List Byte) (k n : Nat) (h : k + n ≤ as.length) :
    ((as ++ bs).drop k).take n = (as.drop k).take n := by
  rw [List.drop_append_of_le_length (by omega), List.take_append_of_le_length (by rw [List.length_drop]; omega)]

/-- The pixels come back out of a line's bytes. -/
theorem pixelAt_packPixels (ps : List Rgb) (tail x : Nat) (h : x < ps.length) :
    pixelAt (packPixels ps tail) x = ps[x] := by
  induction ps, tail using packPixels.induct generalizing x with
  | case1 => exact absurd h (Nat.not_lt_zero x)
  | case2 p tail =>
    obtain rfl : x = 0 := by simpa using h
    have hb := bits_lt p
    show rgbOfBits (beValue (((beBytes 5 (Rgb.bits p * 16 + tail % 16)).drop 0).take 5) / 16) = p
    rw [beValue_mid 0 5 0]
    exact rgbOfBits_bits p _ (by omega)
  | case3 p q ps tail ih =>
    have hp := bits_lt p
    have hq := bits_lt q
    have hlen := length_beBytes 9 (Rgb.bits p * 2 ^ 36 + Rgb.bits q)
    rw [packPixels]
    match x, h with
    | 0, _ =>
      show rgbOfBits (beValue (List.take 5 (List.drop 0 _)) / 16) = p
      rw [mid_append_left _ _ _ _ (by omega), beValue_mid 0 5 4]
      exact rgbOfBits_bits p _ (by omega)
    | 1, _ =>
      show rgbOfBits (beValue (List.take 5 (List.drop 4 _))) = q
      rw [mid_append_left _ _ _ _ (by omega), beValue_mid 4 5 0]
      exact rgbOfBits_bits q _ (by omega)
    | x + 2, h =>
      have hx : 36 * (x + 2) / 8 = 9 + 36 * x / 8 := by omega
      have hparity : (x + 2) % 2 = x % 2 := by omega
      have hdrop := List.drop_length_add_append (l₁ := beBytes 9 (Rgb.bits p * 2 ^ 36 + Rgb.bits q))
        (l₂ := packPixels ps tail) (36 * x / 8)
      rw [hlen] at hdrop
      have htail := ih x (by simpa using h)
      rw [pixelAt] at htail ⊢
      rw [hx, hparity, hdrop, htail]
      rfl

/-- The bytes read within a write are the bytes written. -/
theorem readBytes_writeBytes (m : Memory) (a k n : Nat) (bs : List Byte) (h : k + n ≤ bs.length) :
    readBytes (writeBytes m a bs) (a + k) n = (bs.drop k).take n := by
  refine List.ext_getElem (by simp [readBytes]; omega) fun i h1 h2 => ?_
  have hi : i < n := by simpa [readBytes] using h1
  have hki : a + k + i - a = k + i := by omega
  simp only [readBytes, List.getElem_map, List.getElem_range, List.getElem_take, List.getElem_drop]
  rw [readByte_writeBytes, if_pos (by omega), hki, List.getElem?_eq_getElem (by omega), Option.getD_some]

/-- A line that is written reads back, and no byte beyond it changes (R137). -/
theorem readPixels_writePixels (m : Memory) (addr : Nat) (ps : List Rgb) :
    readPixels (writePixels m addr ps) addr 0 ps.length = ps := by
  refine List.ext_getElem (by simp [readPixels]) fun x h1 h2 => ?_
  have hlen := length_packPixels ps (readByte m (addr + 36 * ps.length / 8)).toNat
  simp only [readPixels, List.getElem_map, List.getElem_range, Nat.zero_add]
  rw [← pixelAt_packPixels ps (readByte m (addr + 36 * ps.length / 8)).toNat x h2, readPixel, pixelAt, writePixels,
    readBytes_writeBytes _ _ _ _ _ (by rw [hlen, ceilDiv]; omega)]

theorem readByte_writePixels (m : Memory) (addr : Nat) (ps : List Rgb) (a : Nat)
    (h : a < addr ∨ addr + ceilDiv (9 * ps.length) 2 ≤ a) : readByte (writePixels m addr ps) a = readByte m a := by
  rw [writePixels, readByte_writeBytes, length_packPixels, if_neg (by omega)]

end Sys2Proof.Machine
end

section
/-! The completion of a staging write (R39, R50, R137). -/
namespace Sys2Proof.Machine

/-! ## What the frame store's operations leave of the receiver, the memory and the slots -/

/-- The receiver with the memory port. -/
def State.memorySide (s : State) : Lra × MemPort := (s.lra, s.mpt)

theorem memorySide_completeIfResolved (s : State) (k : Fin 5) : (s.completeIfResolved k).memorySide = s.memorySide := by
  have hr : ∀ u : State, u.reevalRepeat.memorySide = u.memorySide := fun u => by
    unfold State.reevalRepeat State.reevalRepeatDuring
    split
    · split <;> rfl
    · rfl
  unfold State.completeIfResolved State.completeSlot
  split
  · dsimp only
    rw [hr]
    split <;> rfl
  · rfl

theorem memorySide_lineWritten (s : State) (l : StagedLine) : (s.lineWritten l).memorySide = s.memorySide := by
  have hc : ∀ k j, (s.checkEntry k j).memorySide = s.memorySide := fun k j => by
    unfold State.checkEntry
    split
    · rfl
    · rfl
    · rw [memorySide_completeIfResolved]; rfl
  unfold State.lineWritten
  split
  · rw [memorySide_completeIfResolved]
    exact hc _ _
  · rfl

/-- The repeat source is no part of the frame store. -/
theorem store_reevalRepeat (s : State) : s.reevalRepeat.store = s.store := by
  unfold State.reevalRepeat State.reevalRepeatDuring
  split
  · split <;> rfl
  · rfl

/-- A completion changes a slot's state, completion stamp and D, and that only of a DRAINING slot. -/
theorem slot_completeIfResolved (s : State) (k j : Fin 5) : (s.completeIfResolved k).slot j = s.slot j ∨
    (s.slot j).state = .draining ∧
      ∃ d, (s.completeIfResolved k).slot j = { s.slot j with
        state := .complete, completion := some s.relayTime, delivery := d } := by
  unfold State.completeIfResolved
  split
  · rename_i h
    simp only [Bool.and_eq_true, decide_eq_true_eq] at h
    have hslot : (s.completeSlot k).slot j = (s.modSlot k fun r => { r with
        state := .complete, completion := some s.relayTime, delivery := some (min (s.age k) 1000000) }).slot j := by
      unfold State.completeSlot
      dsimp only
      rw [State.slot, store_reevalRepeat]
      split <;> rfl
    rw [hslot]
    by_cases hj : j = k
    · subst hj
      exact .inr ⟨h.1, _, slot_modSlot_same _ _ _⟩
    · exact .inl (slot_modSlot_other _ _ _ _ hj)
  · exact .inl rfl

/-- A slot that holds a frame keeps it. -/
theorem holdsFrame_lineWritten (s : State) (l : StagedLine) (k : Fin 5) (a : Stamp) (h : s.holdsFrame k a = true) :
    (s.lineWritten l).holdsFrame k a = true := by
  have hcongr : ∀ u v : State, (v.slot k).state = (u.slot k).state → (v.slot k).arrival = (u.slot k).arrival →
      u.holdsFrame k a = true → v.holdsFrame k a = true := fun u v hs ha hu => by
    rw [State.holdsFrame, hs, ha]; exact hu
  have hmod : ∀ (u : State) i f, (∀ r, (f r).arrival = r.arrival ∧ (f r).state = r.state) →
      u.holdsFrame k a = true → (u.modSlot i f).holdsFrame k a = true := fun u i f hf hu => by
    by_cases hi : k = i
    · subst hi
      exact hcongr u _ (by rw [slot_modSlot_same, (hf _).2]) (by rw [slot_modSlot_same, (hf _).1]) hu
    · exact hcongr u _ (by rw [slot_modSlot_other _ _ _ _ hi]) (by rw [slot_modSlot_other _ _ _ _ hi]) hu
  have hcomplete : ∀ (u : State) i, u.holdsFrame k a = true → (u.completeIfResolved i).holdsFrame k a = true := fun u i hu => by
    rcases slot_completeIfResolved u i k with e | ⟨_, d, e⟩
    · exact hcongr u _ (by rw [e]) (by rw [e]) hu
    · simp only [State.holdsFrame, e, Bool.and_eq_true, decide_eq_true_eq] at hu ⊢
      exact ⟨nofun, hu.2⟩
  have hcheck : ∀ i j, (s.checkEntry i j).holdsFrame k a = true := fun i j => by
    unfold State.checkEntry
    split
    · exact h
    · exact hmod s i (fun r => r.setEntry j { r.entry j with check := .good }) (fun _ => ⟨rfl, rfl⟩) h
    · exact hcomplete _ _ (hmod s i (fun r => (r.unmarkReady j).setEntry j SliceEntry.rewritten)
        (fun r => (unmarkReady_frame r j).2) h)
  unfold State.lineWritten
  split
  · exact hcomplete _ _ (hmod _ _ _ (fun r => (countWritten_frame r _).2) (hcheck _ _))
  · exact h

/-! ## Slice entries -/

theorem entry_setEntry (r : Slot) (i j : Nat) (x : SliceEntry) (h : j < 270) :
    (r.setEntry j x).entry i = if i = j then x else r.entry i := by
  unfold Slot.entry Slot.setEntry
  dsimp only
  by_cases hi : i = j
  · subst hi; simp [h]
  · rw [Vector.getElem?_setIfInBounds_ne (Ne.symm hi), if_neg hi]

theorem entry_markReady (r : Slot) (i j : Nat) : (r.markReady j).entry i = r.entry i := rfl

/-- One more line written into slice j: READY when it has them all and discarded none; the other entries stay. -/
theorem countWritten_entry (r : Slot) (x : SliceEntry) (j : Nat) (h : j < 270) (hx : x = r.entry j) :
    (r.countWritten j).entry j =
        { x with
          written := x.written + 1
          state := if x.state = .filling ∧ x.written + 1 = r.capacity j ∧ x.discarded = false then .ready
            else x.state } ∧
      (r.countWritten j).readyCount = r.readyCount +
        (if x.state = .filling ∧ x.written + 1 = r.capacity j ∧ x.discarded = false then 1 else 0) ∧
      ∀ i, i ≠ j → (r.countWritten j).entry i = r.entry i := by
  subst hx
  unfold Slot.countWritten
  by_cases hc : (r.entry j).state = .filling ∧ (r.entry j).written + 1 = r.capacity j ∧ (r.entry j).discarded = false
  · obtain ⟨hs, hw, hd⟩ := hc
    simp only [hs, hw, hd, decide_true, Bool.not_false, Bool.and_self, if_true, and_self, entry_markReady]
    refine ⟨by rw [entry_setEntry _ _ _ _ h, if_pos rfl], rfl, fun i hi => ?_⟩
    rw [entry_setEntry _ _ _ _ h, if_neg hi, entry_setEntry _ _ _ _ h, if_neg hi]
  · have hb : (decide ((r.entry j).state = .filling) && decide ((r.entry j).written + 1 = r.capacity j) &&
        !(r.entry j).discarded) = false := by
      rw [Bool.eq_false_iff]
      intro ht
      simp only [Bool.and_eq_true, decide_eq_true_eq, Bool.not_eq_true'] at ht
      exact hc ⟨ht.1.1, ht.1.2, ht.2⟩
    simp only [hb, if_neg hc, Bool.false_eq_true, if_false]
    refine ⟨by rw [entry_setEntry _ _ _ _ h, if_pos rfl], rfl, fun i hi => ?_⟩
    rw [entry_setEntry _ _ _ _ h, if_neg hi]

theorem checkEntry_of_good (s : State) (k : Fin 5) (j : Nat) (h : ((s.slot k).entry j).check = .good) :
    s.checkEntry k j = s := by
  rw [State.checkEntry, h]

/-- A written line of a frame still in its slot: its slice counts it, and a completion leaves entries and ready count. -/
theorem slot_lineWritten (s : State) (l : StagedLine) (j : Nat) (hl : s.holdsFrame l.slot l.arrival = true)
    (hj : j = l.line / (s.slot l.slot).sliceHeight) (hg : ((s.slot l.slot).entry j).check = .good) :
    ((s.lineWritten l).slot l.slot).entry = ((s.slot l.slot).countWritten j).entry ∧
      ((s.lineWritten l).slot l.slot).readyCount = ((s.slot l.slot).countWritten j).readyCount := by
  have he : s.lineWritten l = (s.modSlot l.slot fun r => r.countWritten j).completeIfResolved l.slot := by
    rw [State.lineWritten, if_pos hl, ← hj]
    dsimp only
    rw [checkEntry_of_good _ _ _ hg]
  rw [he]
  rcases slot_completeIfResolved (s.modSlot l.slot fun r => r.countWritten j) l.slot l.slot with h | ⟨_, d, h⟩ <;>
    rw [h, slot_modSlot_same] <;> exact ⟨rfl, rfl⟩

/-! ## The completion of a staging write -/

/-- The line is in memory, and has left the queue if it was still there. -/
def State.lineStored (s : State) (l : StagedLine) (addr : Nat) (queued : Bool) : State :=
  { s with
    mpt.transfer := none
    mpt.frameMemory := writePixels s.mpt.frameMemory addr l.pixels
    lra.staging := if queued then s.lra.staging.drop 1 else s.lra.staging }

theorem exec_stagingWriteCompletion (e : Env) (l : StagedLine) (addr : Nat) (queued : Bool) (s : State)
    (h : s.mpt.transfer = some (.stagingWrite l addr queued)) : exec (.stagingWriteCompletion e) s =
      .next ((((s.arrive e).lineStored l addr queued).lineWritten l).settle (s.arrive e)) := by
  show Host.Outcome.next (s.arrive e).stagingWriteDone = _
  rw [State.stagingWriteDone, arrive_mpt, h]
  rfl

theorem holdsFrame_arrive (s : State) (e : Env) (k : Fin 5) (a : Stamp) :
    (s.arrive e).holdsFrame k a = s.holdsFrame k a := by
  rw [State.holdsFrame, arrive_slot_state, arrive_slot_arrival]
  rfl

theorem lineStored_scanOut (s : State) (e : Env) (l : StagedLine) (addr : Nat) (queued : Bool)
    (hs : s.sco.state = .scanning) : (((s.arrive e).lineStored l addr queued).lineWritten l).sco.state = .scanning := by
  rw [(steady_lineWritten _ l).scanOut]
  show (s.arrive e).sco.state = _
  rw [arrive_sco, hs]

/-- The head of the queue that follows the written line stays, if its slot holds its frame. -/
theorem staging_lineWritten (s : State) (l : StagedLine) (addr : Nat) (rest : List StagedLine)
    (hq : s.lra.staging = l :: rest) (hs : s.sco.state = .scanning)
    (hnext : ∀ m, rest.head? = some m → s.holdsFrame m.slot m.arrival = true) :
    ((s.lineStored l addr true).lineWritten l).settleMemory.lra.staging = rest := by
  have hside := memorySide_lineWritten (s.lineStored l addr true) l
  have hhold : ∀ m, rest.head? = some m →
      ((s.lineStored l addr true).lineWritten l).holdsFrame m.slot m.arrival = true :=
    fun m hm => holdsFrame_lineWritten _ l _ _ (hnext m hm)
  have hscan : ((s.lineStored l addr true).lineWritten l).sco.state = .scanning := by
    rw [(steady_lineWritten _ l).scanOut]; exact hs
  generalize (s.lineStored l addr true).lineWritten l = u at hside hhold hscan
  have hstaging : u.lra.staging = rest :=
    (congrArg (fun x : Lra × MemPort => x.1.staging) hside :).trans (congrArg (List.drop 1) hq)
  have hidle : u.mpt.transfer = none := (congrArg (fun x : Lra × MemPort => x.2.transfer) hside :)
  have hbusy : u.headBusy = false := by rw [State.headBusy, hidle]
  have hdrop : u.dropDeadHeads.lra.staging = rest := by
    rw [State.dropDeadHeads, hbusy, hstaging]
    cases rest with
    | nil => rfl
    | cons m rest =>
      show List.dropWhile (fun l => !u.holdsFrame l.slot l.arrival) (m :: rest) = _
      rw [List.dropWhile_cons, hhold m rfl]
      rfl
  rw [settleMemory_of_not_holding u (by rw [hscan]; decide), lra_arbitrate, hdrop]

/-- Settles O16. -/
theorem stagingWriteStoresTheLine : Obligations.StagingWriteStoresTheLine := by
  refine ⟨fun e l addr queued s ht => ?_, fun e l addr rest s ht hq hs hnext => ?_,
    fun e l addr j queued r x s ht hs hl hr hj hj' hx hg => ?_, fun e l addr queued s ht hs hl => ?_⟩
  · have hexec := exec_stagingWriteCompletion e l addr queued s ht
    have houter := (outer_settle _ (s.arrive e)).trans (outer_lineWritten ((s.arrive e).lineStored l addr queued) l)
    generalize State.settle _ (s.arrive e) = t at hexec houter
    have hframe : t.mpt.frameMemory = writePixels s.mpt.frameMemory addr l.pixels := by
      rw [← arrive_mpt s e]
      exact congrArg Outer.frameMemory houter
    have hoverlay : t.ovl.memory = s.ovl.memory := by
      rw [← arrive_ovl s e]
      exact congrArg Outer.overlayMemory houter
    refine ⟨t, hexec, ?_, fun a ha => ?_, hoverlay⟩
    · rw [hframe, readPixels_writePixels]
    · rw [hframe, readByte_writePixels _ _ _ _ ha]
  · have hexec := exec_stagingWriteCompletion e l addr true s ht
    rw [settle_of_not_ready _ _ (by rw [lineStored_scanOut s e l addr true hs]; decide)] at hexec
    refine ⟨_, hexec, staging_lineWritten (s.arrive e) l addr rest (by rw [arrive_lra]; exact hq)
      (by rw [arrive_sco]; exact hs) fun m hm => ?_⟩
    rw [holdsFrame_arrive]
    exact hnext m hm
  · have hexec := exec_stagingWriteCompletion e l addr queued s ht
    have hoff := offMemory_settle_of_scanning _ (s.arrive e) (lineStored_scanOut s e l addr queued hs)
    have hslot := slot_lineWritten ((s.arrive e).lineStored l addr queued) l j ((holdsFrame_arrive s e _ _).trans hl)
      (by rw [hj, hr]; rfl) (by rw [← hg, hx, hr]; rfl)
    generalize State.lineWritten _ l = u at hexec hoff hslot
    generalize u.settle (s.arrive e) = t at hexec hoff
    have hthis : ((s.arrive e).lineStored l addr queued).slot l.slot = r := hr.symm
    rw [hthis] at hslot
    obtain ⟨hentry, hcount, hother⟩ := countWritten_entry r x j hj' hx
    refine ⟨t, hexec, ?_, ?_, fun i hi => ?_⟩
    · rw [slot_of_offMemory hoff, hslot.1, hentry]
    · rw [slot_of_offMemory hoff, hslot.2, hcount]
    · rw [slot_of_offMemory hoff, hslot.1, hother i hi]
  · have hexec := exec_stagingWriteCompletion e l addr queued s ht
    have hno : ((s.arrive e).lineStored l addr queued).lineWritten l = (s.arrive e).lineStored l addr queued :=
      if_neg (by rw [show ((s.arrive e).lineStored l addr queued).holdsFrame l.slot l.arrival =
        (s.arrive e).holdsFrame l.slot l.arrival from rfl, holdsFrame_arrive, hl]; decide)
    have hoff := offMemory_settle_of_scanning _ (s.arrive e) (lineStored_scanOut s e l addr queued hs)
    rw [hno] at hexec hoff
    exact ⟨_, hexec, store_of_offMemory hoff⟩

end Sys2Proof.Machine
end

section
/-! A WRITE held in a region: overlay memory, the pending contracts, the pending overlay list (R111, R159, R178, R181). -/
namespace Sys2Proof.Machine

/-! ## Bytes with the bits of them that hold a field -/

/-- `n` bytes of an image from offset `off` on, each with the bits of it that hold a field. -/
def heldBytes (b : List Byte) (held : Nat → Byte) (off n : Nat) : List Byte :=
  (List.range' off n).map fun j => b.getD j 0 &&& held j

theorem heldBytes_append (b : List Byte) (held : Nat → Byte) (off n m : Nat) :
    heldBytes b held off n ++ heldBytes b held (off + n) m = heldBytes b held off (n + m) := by
  rw [heldBytes, heldBytes, heldBytes, ← List.map_append, List.range'_append_1]

theorem length_heldBytes (b : List Byte) (held : Nat → Byte) (off n : Nat) : (heldBytes b held off n).length = n := by
  rw [heldBytes, List.length_map, List.length_range']

/-- Bytes whose every bit holds a field are the bytes of the image. -/
theorem heldBytes_of_full (b : List Byte) (held : Nat → Byte) (off n : Nat) (hb : off + n ≤ b.length)
    (hh : ∀ i < n, held (off + i) = 0xFF) : heldBytes b held off n = (b.drop off).take n := by
  refine List.ext_getElem (by rw [length_heldBytes, List.length_take, List.length_drop]; omega) fun i h1 h2 => ?_
  have hi : i < n := by rwa [length_heldBytes] at h1
  have hff : ∀ x : Byte, x &&& 0xFF = x := by decide
  simp only [heldBytes, List.getElem_map, List.getElem_range', Nat.one_mul, List.getElem_take, List.getElem_drop]
  rw [hh i hi, hff, List.getD_eq_getElem _ _ (by omega)]

section
variable (b : List Byte) (held : Nat → Byte) (off : Nat)

/-- A field of whole bytes is held as written. -/
theorem beBytes_fieldAt (n : Nat) (hb : off + n ≤ b.length) (hh : ∀ i < n, held (off + i) = 0xFF) :
    beBytes n (fieldAt b off n) = heldBytes b held off n := by
  have h := beBytes_beValue ((b.drop off).take n)
  rw [List.length_take, List.length_drop, Nat.min_eq_left (by omega)] at h
  rw [heldBytes_of_full b held off n hb hh, fieldAt, h]

theorem fieldAt_lt (n : Nat) : fieldAt b off n < 256 ^ n :=
  (beValue_lt _).trans_le (Nat.pow_le_pow_right (by decide) (by rw [List.length_take]; exact Nat.min_le_left _ _))

theorem fieldAt_one (hb : off < b.length) : fieldAt b off 1 = (b.getD off 0).toNat := by
  rw [fieldAt, List.drop_eq_getElem_cons hb, List.getD_eq_getElem _ _ hb]
  exact Nat.zero_add _

theorem fieldAt_two (hb : off + 1 < b.length) :
    fieldAt b off 2 = (b.getD off 0).toNat * 256 + (b.getD (off + 1) 0).toNat := by
  rw [fieldAt, List.drop_eq_getElem_cons (by omega), List.drop_eq_getElem_cons hb, List.getD_eq_getElem _ _ hb,
    List.getD_eq_getElem _ _ (by omega)]
  show (0 * 256 + _) * 256 + _ = _
  rw [Nat.zero_mul, Nat.zero_add]

/-- A 16-bit field is held as written. -/
theorem beBytes_sixteen (hb : off + 2 ≤ b.length) (hh : ∀ i < 2, held (off + i) = 0xFF) :
    beBytes 2 (BitVec.ofNat 16 (fieldAt b off 2)).toNat = heldBytes b held off 2 := by
  have hlt : fieldAt b off 2 < 2 ^ 16 := fieldAt_lt b off 2
  rw [BitVec.toNat_ofNat, Nat.mod_eq_of_lt hlt, beBytes_fieldAt b held off 2 hb hh]

/-- The bytes of the low 12 bits of two bytes. -/
theorem beBytes_low_twelve (x y : Byte) :
    beBytes 2 (BitVec.ofNat 12 (x.toNat * 256 + y.toNat)).toNat = [x &&& 0x0F, y] := by
  have hlow : ∀ z : Byte, (z &&& 0x0F).toNat = z.toNat % 16 := by decide
  have hx := x.isLt
  have hy := y.isLt
  simp only [beBytes, BitVec.toNat_ofNat, pow_one, pow_zero, List.cons.injEq, and_true]
  refine ⟨BitVec.eq_of_toNat_eq ?_, BitVec.eq_of_toNat_eq ?_⟩
  · rw [BitVec.toNat_ofNat, hlow]; omega
  · rw [BitVec.toNat_ofNat]; omega

/-- A 12-bit field drops the top 4 bits of its two bytes. -/
theorem beBytes_twelve (hb : off + 2 ≤ b.length) (h0 : held off = 0x0F) (h1 : held (off + 1) = 0xFF) :
    beBytes 2 (BitVec.ofNat 12 (fieldAt b off 2)).toNat = heldBytes b held off 2 := by
  have hff : ∀ x : Byte, x &&& 0xFF = x := by decide
  rw [fieldAt_two b off hb, beBytes_low_twelve]
  show _ = [b.getD off 0 &&& held off, b.getD (off + 1) 0 &&& held (off + 1)]
  rw [h0, h1, hff]

/-- A flag is the lowest bit of its byte. -/
theorem flagByte_fieldAt (hb : off < b.length) (hh : held off = 0x01) :
    flagByte (decide (fieldAt b off 1 % 2 = 1)) = heldBytes b held off 1 := by
  have hbit : ∀ x : Byte, flagByte (decide (x.toNat % 2 = 1)) = [x &&& 0x01] := by decide
  rw [fieldAt_one b off hb, hbit, ← hh]
  rfl

/-- The permitted depths are the three lowest bits of their byte. -/
theorem beBytes_three (hb : off < b.length) (hh : held off = 0x07) :
    beBytes 1 (BitVec.ofNat 3 (fieldAt b off 1)).toNat = heldBytes b held off 1 := by
  have hbits : ∀ x : Byte, beBytes 1 (BitVec.ofNat 3 x.toNat).toNat = [x &&& 0x07] := by decide
  rw [fieldAt_one b off hb, hbits, ← hh]
  rfl

/-- A byte of the record is held as written. -/
theorem byte_fieldAt (hb : off < b.length) (hh : held off = 0xFF) :
    [BitVec.ofNat 8 (fieldAt b off 1)] = heldBytes b held off 1 := by
  have hff : ∀ x : Byte, BitVec.ofNat 8 x.toNat = x &&& 0xFF := by decide
  rw [fieldAt_one b off hb, hff, ← hh]
  rfl

/-- Bytes that hold nothing read 0. -/
theorem replicate_zero (n : Nat) (hh : ∀ i < n, held (off + i) = 0) : List.replicate n 0 = heldBytes b held off n := by
  refine List.ext_getElem (by rw [length_heldBytes, List.length_replicate]) fun i h1 h2 => ?_
  have hi : i < n := by rwa [List.length_replicate] at h1
  simp only [heldBytes, List.getElem_map, List.getElem_range', Nat.one_mul, List.getElem_replicate]
  rw [hh i hi]
  exact (BitVec.and_zero).symm

end

/-! ## A merged WRITE -/

theorem mergeByte_full (x v : Byte) : mergeByte x 0xFF v = v := by
  have hx : x &&& ~~~(0xFF : Byte) = 0 := by revert x; decide
  have hv : v &&& 0xFF = v := by revert v; decide
  rw [mergeByte, hx, hv]
  exact BitVec.zero_or

/-- A WRITE's byte goes over each byte it reaches. -/
theorem getD_mergeBytes (old data : List Byte) (i : Nat) (h : i < old.length) :
    (mergeBytes old (plainPairs data)).getD i 0 = if i < data.length then data.getD i 0 else old.getD i 0 := by
  induction old generalizing data i with
  | nil => exact absurd h (Nat.not_lt_zero i)
  | cons x old ih =>
    cases data with
    | nil => rfl
    | cons v data =>
      show (mergeByte x 0xFF v :: mergeBytes old (plainPairs data)).getD i 0 = _
      rw [mergeByte_full]
      cases i with
      | zero => rfl
      | succ i => simpa using ih data i (by simpa using h)

theorem length_mergeBytes (old : List Byte) (ps : List (Byte × Byte)) : (mergeBytes old ps).length = old.length := by
  induction old generalizing ps with
  | nil => rfl
  | cons x old ih =>
    match ps with
    | [] => rfl
    | (m, v) :: ps => exact congrArg Nat.succ (ih ps)

theorem length_mergeAt (old : List Byte) (off : Nat) (ps : List (Byte × Byte)) :
    (mergeAt old off ps).length = old.length := by
  rw [mergeAt, List.length_append, length_mergeBytes, ← List.length_append, List.take_append_drop]

/-- A byte of an image after a WRITE: one of the data, or the byte as it was. -/
theorem getD_mergeAt (old data : List Byte) (off j : Nat) (h : j < old.length) :
    (mergeAt old off (plainPairs data)).getD j 0 =
      if off ≤ j ∧ j < off + data.length then data.getD (j - off) 0 else old.getD j 0 := by
  by_cases hj : j < off
  · rw [mergeAt, List.getD_append _ _ _ _ (by rw [List.length_take]; omega), if_neg (by omega)]
    simp [hj]
  · have hlen : (old.take off).length = off := by rw [List.length_take]; omega
    rw [mergeAt, List.getD_append_right _ _ _ _ (by omega), hlen,
      getD_mergeBytes _ _ _ (by rw [List.length_drop]; omega)]
    have hold : (old.drop off).getD (j - off) 0 = old.getD j 0 := by
      simp [List.getD_eq_getElem?_getD, show off + (j - off) = j by omega]
    rw [hold]
    by_cases hd : j - off < data.length
    · rw [if_pos hd, if_pos (by omega)]
    · rw [if_neg hd, if_neg (by omega)]

/-! ## Images that hold nothing beside their fields -/

/-- Every byte of a list that begins at offset `off` has only bits that hold a field. -/
def HeldOnly (held : Nat → Byte) (off : Nat) (bs : List Byte) : Prop :=
  ∀ i < bs.length, bs.getD i 0 &&& held (off + i) = bs.getD i 0

theorem heldOnly_nil (held : Nat → Byte) (off : Nat) : HeldOnly held off [] := nofun

theorem heldOnly_cons (held : Nat → Byte) (off : Nat) (x : Byte) (bs : List Byte) :
    HeldOnly held off (x :: bs) ↔ x &&& held off = x ∧ HeldOnly held (off + 1) bs := by
  refine ⟨fun h => ⟨h 0 (by simp), fun i hi => ?_⟩, fun ⟨hx, h⟩ i hi => ?_⟩
  · rw [Nat.add_right_comm]
    exact h (i + 1) (by simpa using hi)
  · cases i with
    | zero => exact hx
    | succ i =>
      have := h i (by simpa using hi)
      rwa [Nat.add_right_comm] at this

theorem heldOnly_append (held : Nat → Byte) (off : Nat) (as bs : List Byte) :
    HeldOnly held off (as ++ bs) ↔ HeldOnly held off as ∧ HeldOnly held (off + as.length) bs := by
  induction as generalizing off with
  | nil => simp [heldOnly_nil]
  | cons x as ih =>
    rw [List.cons_append, heldOnly_cons, heldOnly_cons, ih, List.length_cons, and_assoc, Nat.add_right_comm, Nat.add_assoc]

/-- What an image holds after a WRITE, of one that held only its fields. -/
theorem heldBytes_mergeAt (old data : List Byte) (held : Nat → Byte) (off : Nat) (h : HeldOnly held 0 old) :
    heldBytes (mergeAt old off (plainPairs data)) held 0 old.length =
      (List.range old.length).map (writtenByte old off data held) := by
  rw [heldBytes, ← List.range_eq_range']
  refine List.map_congr_left fun j hj => ?_
  have hj' := List.mem_range.mp hj
  have hold := h j hj'
  rw [Nat.zero_add] at hold
  rw [getD_mergeAt _ _ _ _ hj', writtenByte]
  split
  · rfl
  · exact hold

/-! ## The pending copies -/

theorem bytes_ofBytes_input (b : List Byte) (h : b.length = 4) :
    (InputContract.ofBytes b).bytes = heldBytes b inputHeld 0 4 := by
  simp only [InputContract.bytes, InputContract.ofBytes]
  rw [beBytes_fieldAt b inputHeld 0 1 (by omega) (by decide), beBytes_fieldAt b inputHeld 1 1 (by omega) (by decide),
    beBytes_fieldAt b inputHeld 2 1 (by omega) (by decide), beBytes_three b inputHeld 3 (by omega) rfl]
  rfl

theorem rgbBytes_rgbOfBytes (b : List Byte) (held : Nat → Byte) (off : Nat) (hb : off + 6 ≤ b.length)
    (hh : ∀ i < 3, held (off + 2 * i) = 0x0F ∧ held (off + 2 * i + 1) = 0xFF) :
    rgbBytes (rgbOfBytes b off) = heldBytes b held off 6 := by
  simp only [rgbBytes, rgbOfBytes]
  rw [beBytes_twelve b held off (by omega) (hh 0 (by decide)).1 (hh 0 (by decide)).2,
    beBytes_twelve b held (off + 2) (by omega) (hh 1 (by decide)).1 (hh 1 (by decide)).2,
    beBytes_twelve b held (off + 4) (by omega) (hh 2 (by decide)).1 (hh 2 (by decide)).2, heldBytes_append,
    heldBytes_append b held off 4 2]

theorem bytes_ofBytes_panel (b : List Byte) (h : b.length = 44) :
    (PanelContract.ofBytes b).bytes = heldBytes b panelHeld 0 44 := by
  have hfield := fun off n hb hh => beBytes_fieldAt b panelHeld off n hb hh
  simp only [PanelContract.bytes, PanelContract.ofBytes]
  rw [hfield 0 2 (by omega) (by decide), hfield 2 2 (by omega) (by decide), hfield 4 4 (by omega) (by decide),
    hfield 8 4 (by omega) (by decide), hfield 12 4 (by omega) (by decide), hfield 16 2 (by omega) (by decide),
    hfield 18 1 (by omega) (by decide), flagByte_fieldAt b panelHeld 19 (by omega) rfl,
    hfield 20 4 (by omega) (by decide), hfield 24 4 (by omega) (by decide), hfield 28 4 (by omega) (by decide),
    hfield 32 2 (by omega) (by decide), hfield 34 2 (by omega) (by decide),
    rgbBytes_rgbOfBytes b panelHeld 36 (by omega) (by decide), hfield 42 2 (by omega) (by decide)]
  rfl

end Sys2Proof.Machine
end

section
/-! What the plane records and the pending copies hold as bytes; a WRITE to each region (R159). -/
namespace Sys2Proof.Machine

theorem paletteBytes_paletteOfBytes (b : List Byte) (held : Nat → Byte) (off : Nat) (hb : off + 8 ≤ b.length)
    (hh : ∀ i < 3, held (off + 2 * i) = 0x0F ∧ held (off + 2 * i + 1) = 0xFF) (ha : held (off + 6) = 0xFF)
    (hz : held (off + 7) = 0) : paletteBytes (paletteOfBytes b off) = heldBytes b held off 8 := by
  have halpha := byte_fieldAt b held (off + 6) (by omega) ha
  have hzero := replicate_zero b held (off + 7) 1 fun i hi => by rw [Nat.lt_one_iff.mp hi]; exact hz
  simp only [paletteBytes, paletteOfBytes]
  rw [rgbBytes_rgbOfBytes b held off (by omega) hh, ← heldBytes_append b held off 6 2,
    ← heldBytes_append b held (off + 6) 1 1, ← halpha, ← hzero]
  rfl

theorem bytes_ofBytes_plane (b : List Byte) (h : b.length = 64) :
    (Plane.ofBytes b).bytes = heldBytes b planeHeld 0 64 := by
  have htwelve := fun off hb h0 h1 => beBytes_twelve b planeHeld off hb h0 h1
  have hpalette : (Plane.ofBytes b).palette.toList.flatMap paletteBytes = heldBytes b planeHeld 24 32 := by
    show List.flatMap paletteBytes (Vector.ofFn fun i : Fin 4 => paletteOfBytes b (24 + 8 * i.val)).toList = _
    simp only [Vector.toList_ofFn, List.ofFn_succ, List.ofFn_zero, List.flatMap_cons, List.flatMap_nil]
    rw [paletteBytes_paletteOfBytes b planeHeld _ (by simp; omega) (by decide) (by decide) (by decide),
      paletteBytes_paletteOfBytes b planeHeld _ (by simp; omega) (by decide) (by decide) (by decide),
      paletteBytes_paletteOfBytes b planeHeld _ (by simp; omega) (by decide) (by decide) (by decide),
      paletteBytes_paletteOfBytes b planeHeld _ (by simp; omega) (by decide) (by decide) (by decide)]
    rfl
  have hsingle : [(Plane.ofBytes b).kind, (Plane.ofBytes b).alpha, 0] = heldBytes b planeHeld 1 3 := by
    rw [← heldBytes_append b planeHeld 1 2 1, ← heldBytes_append b planeHeld 1 1 1,
      ← byte_fieldAt b planeHeld 1 (by omega) rfl, ← byte_fieldAt b planeHeld 2 (by omega) rfl,
      ← replicate_zero b planeHeld 3 1 (by decide)]
    rfl
  have hgap : [0, 0] = heldBytes b planeHeld 22 2 := replicate_zero b planeHeld 22 2 (by decide)
  rw [Plane.bytes, hpalette, hsingle, hgap, replicate_zero b planeHeld 56 8 (by decide)]
  simp only [Plane.ofBytes]
  rw [flagByte_fieldAt b planeHeld 0 (by omega) rfl, htwelve 4 (by omega) rfl rfl, htwelve 6 (by omega) rfl rfl,
    htwelve 8 (by omega) rfl rfl, htwelve 10 (by omega) rfl rfl, rgbBytes_rgbOfBytes b planeHeld 12 (by omega) (by decide),
    beBytes_sixteen b planeHeld 18 (by omega) (by decide), beBytes_sixteen b planeHeld 20 (by omega) (by decide)]
  rfl

/-! ## The registers hold nothing beside their fields -/

theorem heldOnly_of_full (held : Nat → Byte) (off : Nat) (bs : List Byte) (h : ∀ i < bs.length, held (off + i) = 0xFF) :
    HeldOnly held off bs := fun i hi => by
  have hff : ∀ x : Byte, x &&& 0xFF = x := by decide
  rw [h i hi, hff]

theorem heldOnly_beBytes (held : Nat → Byte) (off n v : Nat) (h : ∀ i < n, held (off + i) = 0xFF) :
    HeldOnly held off (beBytes n v) := heldOnly_of_full held off _ (by rwa [length_beBytes])

theorem heldOnly_zeros (held : Nat → Byte) (off n : Nat) : HeldOnly held off (List.replicate n 0) := fun i hi => by
  have hi' : i < n := by rwa [List.length_replicate] at hi
  simp [List.getD_eq_getElem?_getD, hi']

/-- The first of the two bytes of a 12-bit value has nothing in its top 4 bits. -/
theorem heldOnly_twelve (held : Nat → Byte) (off : Nat) (x : BitVec 12) (h0 : held off = 0x0F) (h1 : held (off + 1) = 0xFF) :
    HeldOnly held off (beBytes 2 x.toNat) := by
  have hff : ∀ z : Byte, z &&& 0xFF = z := by decide
  have hlow : ∀ z : Byte, (z &&& 0x0F).toNat = z.toNat % 16 := by decide
  have hx := x.isLt
  refine (heldOnly_cons held off _ _).mpr ⟨?_, (heldOnly_cons held _ _ _).mpr ⟨by rw [h1, hff], heldOnly_nil _ _⟩⟩
  apply BitVec.eq_of_toNat_eq
  rw [h0, hlow, BitVec.toNat_ofNat, pow_one]
  omega

theorem heldOnly_rgbBytes (held : Nat → Byte) (off : Nat) (p : Rgb)
    (hh : ∀ i < 3, held (off + 2 * i) = 0x0F ∧ held (off + 2 * i + 1) = 0xFF) : HeldOnly held off (rgbBytes p) := by
  simp only [rgbBytes, heldOnly_append, List.length_append, length_beBytes]
  exact ⟨⟨heldOnly_twelve held _ _ (hh 0 (by decide)).1 (hh 0 (by decide)).2,
    heldOnly_twelve held _ _ (hh 1 (by decide)).1 (hh 1 (by decide)).2⟩,
    heldOnly_twelve held _ _ (hh 2 (by decide)).1 (hh 2 (by decide)).2⟩

theorem heldOnly_flagByte (held : Nat → Byte) (off : Nat) (f : Bool) (h : held off = 0x01) :
    HeldOnly held off (flagByte f) :=
  (heldOnly_cons held off _ _).mpr ⟨by rw [h]; revert f; decide, heldOnly_nil _ _⟩

theorem length_rgbBytes (p : Rgb) : (rgbBytes p).length = 6 := rfl

theorem length_flagByte (f : Bool) : (flagByte f).length = 1 := rfl

theorem heldOnly_input (c : InputContract) : HeldOnly inputHeld 0 c.bytes := by
  have hdepths : ∀ d : BitVec 3, BitVec.ofNat 8 (d.toNat / 256 ^ 0) &&& 0x07 = BitVec.ofNat 8 (d.toNat / 256 ^ 0) := by decide
  simp only [InputContract.bytes, heldOnly_append, List.length_append, length_beBytes]
  exact ⟨⟨⟨heldOnly_beBytes _ _ _ _ (by decide), heldOnly_beBytes _ _ _ _ (by decide)⟩,
    heldOnly_beBytes _ _ _ _ (by decide)⟩, (heldOnly_cons _ _ _ _).mpr ⟨hdepths _, heldOnly_nil _ _⟩⟩

theorem length_panelBytes (c : PanelContract) : c.bytes.length = 44 := by
  simp only [PanelContract.bytes, List.length_append, length_beBytes, length_rgbBytes, length_flagByte]

theorem heldOnly_panel (c : PanelContract) : HeldOnly panelHeld 0 c.bytes := by
  have hword := fun off n v h => heldOnly_beBytes panelHeld off n v h
  simp only [PanelContract.bytes, heldOnly_append, List.length_append, length_beBytes, length_rgbBytes, length_flagByte]
  refine ⟨⟨⟨⟨⟨⟨⟨⟨⟨⟨⟨⟨⟨⟨?_, ?_⟩, ?_⟩, ?_⟩, ?_⟩, ?_⟩, ?_⟩, ?_⟩, ?_⟩, ?_⟩, ?_⟩, ?_⟩, ?_⟩, ?_⟩, ?_⟩
  case refine_8 => exact heldOnly_flagByte _ _ _ rfl
  case refine_14 => exact heldOnly_rgbBytes _ _ _ (by decide)
  all_goals exact hword _ _ _ (by decide)

/-- A list of records, each of n bytes that hold only their fields. -/
theorem heldOnly_flatMap {α : Type} (held : Nat → Byte) (f : α → List Byte) (n : Nat) (hn : ∀ x, (f x).length = n)
    (xs : List α) (off : Nat) (h : ∀ k < xs.length, ∀ x, HeldOnly held (off + n * k) (f x)) :
    HeldOnly held off (xs.flatMap f) := by
  induction xs generalizing off with
  | nil => exact heldOnly_nil _ _
  | cons x xs ih =>
    rw [List.flatMap_cons, heldOnly_append, hn]
    refine ⟨h 0 (by simp) x, ih _ fun k hk y => ?_⟩
    have hnext := h (k + 1) (by simpa using hk) y
    rwa [Nat.mul_succ, Nat.add_comm (n * k), ← Nat.add_assoc] at hnext

theorem heldOnly_paletteBytes (e : PaletteEntry) (k : Nat) (h : k < 4) :
    HeldOnly planeHeld (24 + 8 * k) (paletteBytes e) := by
  have hc : ∀ k < 4, (∀ i < 3, planeHeld (24 + 8 * k + 2 * i) = 0x0F ∧ planeHeld (24 + 8 * k + 2 * i + 1) = 0xFF) ∧
      planeHeld (24 + 8 * k + 6) = 0xFF := by decide
  obtain ⟨hcolor, halpha⟩ := hc k h
  have hff : ∀ x : Byte, x &&& 0xFF = x := by decide
  refine (heldOnly_append _ _ _ _).mpr ⟨heldOnly_rgbBytes _ _ _ hcolor, ?_⟩
  exact (heldOnly_cons _ _ _ _).mpr ⟨by rw [length_rgbBytes, halpha, hff], heldOnly_zeros _ _ 1⟩

theorem heldOnly_plane (p : Plane) : HeldOnly planeHeld 0 p.bytes := by
  have hff : ∀ x : Byte, x &&& 0xFF = x := by decide
  have hsingle : HeldOnly planeHeld 1 [p.kind, p.alpha, 0] :=
    (heldOnly_cons _ _ _ _).mpr ⟨hff _, (heldOnly_cons _ _ _ _).mpr ⟨hff _, heldOnly_zeros _ _ 1⟩⟩
  have hpalette : HeldOnly planeHeld 24 (p.palette.toList.flatMap paletteBytes) :=
    heldOnly_flatMap planeHeld paletteBytes 8 (fun _ => rfl) _ 24 fun k hk e =>
      heldOnly_paletteBytes e k (by simpa using hk)
  have hlen : (p.palette.toList.flatMap paletteBytes).length = 32 := by
    simp [List.length_flatMap, show ∀ e, (paletteBytes e).length = 8 from fun _ => rfl]
  simp only [Plane.bytes, heldOnly_append, List.length_append, length_beBytes, length_rgbBytes, hlen, List.length_cons,
    List.length_nil, length_flagByte]
  exact ⟨⟨⟨⟨⟨⟨⟨⟨⟨⟨⟨heldOnly_flagByte _ _ _ rfl, hsingle⟩, heldOnly_twelve _ _ _ rfl rfl⟩, heldOnly_twelve _ _ _ rfl rfl⟩,
    heldOnly_twelve _ _ _ rfl rfl⟩, heldOnly_twelve _ _ _ rfl rfl⟩, heldOnly_rgbBytes _ _ _ (by decide)⟩,
    heldOnly_beBytes _ _ _ _ (by decide)⟩, heldOnly_beBytes _ _ _ _ (by decide)⟩, heldOnly_zeros _ _ 2⟩, hpalette⟩,
    heldOnly_zeros _ _ 8⟩

theorem length_planeBytes (p : Plane) : p.bytes.length = 64 := by
  have hlen : (p.palette.toList.flatMap paletteBytes).length = 32 := by
    simp [List.length_flatMap, show ∀ e, (paletteBytes e).length = 8 from fun _ => rfl]
  simp only [Plane.bytes, List.length_append, length_beBytes, length_rgbBytes, hlen, List.length_replicate, length_flagByte]
  rfl

/-! ## The pending overlay list -/

/-- The bits of byte j of the eight plane records that hold a field. -/
def listHeld (j : Nat) : Byte := planeHeld (j % 64)

theorem heldOnly_planes (ps : Vector Plane 8) : HeldOnly listHeld 0 (ps.toList.flatMap Plane.bytes) := by
  refine heldOnly_flatMap listHeld Plane.bytes 64 length_planeBytes _ 0 fun k _ p i hi => ?_
  have hp := heldOnly_plane p i hi
  rw [length_planeBytes] at hi
  rw [listHeld, show (0 + 64 * k + i) % 64 = i by omega]
  rwa [Nat.zero_add] at hp

theorem length_planes (ps : Vector Plane 8) : (ps.toList.flatMap Plane.bytes).length = 512 := by
  simp [List.length_flatMap, length_planeBytes]

/-- The bytes of one record within a list of records. -/
theorem heldBytes_chunk (b : List Byte) (k : Nat) (h : 64 * k + 64 ≤ b.length) :
    heldBytes ((b.drop (64 * k)).take 64) planeHeld 0 64 = heldBytes b listHeld (64 * k) 64 := by
  refine List.ext_getElem (by rw [length_heldBytes, length_heldBytes]) fun i h1 h2 => ?_
  have hi : i < 64 := by rwa [length_heldBytes] at h1
  have hmod : (64 * k + i) % 64 = i := by omega
  simp only [heldBytes, List.getElem_map, List.getElem_range', Nat.one_mul, Nat.zero_add, listHeld, hmod]
  rw [List.getD_eq_getElem _ _ (by rw [List.length_take, List.length_drop]; omega), List.getElem_take, List.getElem_drop,
    List.getD_eq_getElem _ _ (by omega)]

theorem flatMap_heldBytes (b : List Byte) (held : Nat → Byte) (n m : Nat) :
    (List.range m).flatMap (fun k => heldBytes b held (n * k) n) = heldBytes b held 0 (n * m) := by
  induction m with
  | zero => rfl
  | succ m ih =>
    have hnext := heldBytes_append b held 0 (n * m) n
    rw [Nat.zero_add] at hnext
    rw [List.range_succ, List.flatMap_append, ih, List.flatMap_singleton, hnext, Nat.mul_succ]

theorem bytes_planesOfBytes (b : List Byte) (h : b.length = 512) :
    (planesOfBytes b).toList.flatMap Plane.bytes = heldBytes b listHeld 0 512 := by
  have hplanes : (planesOfBytes b).toList.flatMap Plane.bytes =
      (List.range 8).flatMap fun k => heldBytes b listHeld (64 * k) 64 := by
    rw [planesOfBytes, Vector.toList_ofFn, List.ofFn_eq_map, ← List.map_coe_finRange_eq_range, List.flatMap_map, List.flatMap_map]
    refine List.flatMap_congr fun k _ => ?_
    rw [bytes_ofBytes_plane _ (by rw [List.length_take, List.length_drop]; omega), heldBytes_chunk b k (by omega)]
  rw [hplanes, flatMap_heldBytes]

/-! ## WRITE -/

theorem exec_write (e : Env) (p : Port) (addr : BitVec 24) (data : List Byte) (s : State) (htxn : (s.port p).txn = none) :
    exec (.write e p addr data) s = .next ((s.arrive e).takeWrite p false addr data) := by
  show Host.Outcome.next ((s.openPort e p).takeWrite p false addr data) = _
  rw [openPort_of_no_txn _ _ _ htxn]

theorem length_plainPairs (data : List Byte) : (plainPairs data).length = data.length := List.length_map _

/-- A permitted WRITE to a region that is not the mode word. -/
theorem takeWrite_region (s : State) (p : Port) (addr : BitVec 24) (data : List Byte) (r : Region) (off : Nat)
    (right : Right) (ha : regionOf addr.toNat = some (r, off)) (hw : r.writeRight = some right)
    (hb : ∀ n, r.writableBytes off n = true) (hm : r ≠ .modeWord) (hr : s.hasRight p right = true) :
    s.takeWrite p false addr data = (s.writeRegion p r off (plainPairs data)).endTxn p
      (accessStatus r off data.length) (zeros data.length) := by
  have hmay : s.mayWrite p r off data.length = true := by
    simp only [State.mayWrite, hw, hr, hb, Bool.and_self]
  rw [State.takeWrite]
  simp only [ha, writePairs, Bool.false_eq_true, if_false, length_plainPairs, hmay, hm, Bool.true_eq_false]

theorem toNat_address (base off : Nat) (h : base + off < 2 ^ 24) : (BitVec.ofNat 24 (base + off)).toNat = base + off := by
  rw [BitVec.toNat_ofNat, Nat.mod_eq_of_lt h]

theorem regionOf_input (off : Nat) (h : off < 64) : regionOf (0x002000 + off) = some (.pendingInput, off) := by
  unfold regionOf
  rw [if_neg (by omega), if_neg (by omega), if_pos (by omega)]
  simp

theorem regionOf_panel (off : Nat) (h : off < 64) : regionOf (0x003000 + off) = some (.pendingPanel, off) := by
  unfold regionOf
  rw [if_neg (by omega), if_neg (by omega), if_neg (by omega), if_pos (by omega)]
  simp

theorem regionOf_list (off : Nat) (h : off < 512) : regionOf (0x004000 + off) = some (.overlayList, off) := by
  unfold regionOf
  rw [if_neg (by omega), if_neg (by omega), if_neg (by omega), if_neg (by omega), if_pos (by omega)]
  simp

theorem regionOf_overlay (a : Nat) (h1 : 0x010000 ≤ a) (h2 : a < 0x020000) :
    regionOf a = some (.overlayMemory, a - 0x010000) := by
  unfold regionOf
  rw [if_neg (by omega), if_neg (by omega), if_neg (by omega), if_neg (by omega), if_neg (by omega), if_pos ⟨h1, h2⟩]

/-! ## Overlay memory -/

/-- A WRITE to overlay memory stores its bytes within it, and no other byte changes. -/
theorem readByte_writeOverlay (m : Memory) (off : Nat) (data : List Byte) (a : Nat) (ho : off ≤ 0x010000) :
    readByte (writeOverlay m off (plainPairs data)) a =
      if off ≤ a ∧ a < off + data.length ∧ a < 0x010000 then data.getD (a - off) 0 else readByte m a := by
  have hlen : (mergeBytes (readBytes m off (min (plainPairs data).length (65536 - off))) (plainPairs data)).length =
      min data.length (65536 - off) := by
    rw [length_mergeBytes, readBytes, List.length_map, List.length_range, length_plainPairs]
  rw [writeOverlay, readByte_writeBytes, hlen]
  by_cases h : off ≤ a ∧ a < off + data.length ∧ a < 0x010000
  · obtain ⟨h1, h2, h3⟩ := h
    rw [if_pos ⟨h1, by omega⟩, if_pos ⟨h1, h2, h3⟩, ← List.getD_eq_getElem?_getD, getD_mergeBytes _ _ _ (by
      rw [readBytes, List.length_map, List.length_range, length_plainPairs]; omega), if_pos (by omega)]
  · rw [if_neg (by omega), if_neg h]

theorem prevStatus_endTxn (s : State) (p : Port) (st : Status) (data : List Byte) :
    ((s.endTxn p st data).port p).prevStatus = st := by
  rw [port_endTxn_same]; rfl

/-- A WRITE to overlay memory. -/
theorem write_overlayMemory (e : Env) (p : Port) (addr : BitVec 24) (data : List Byte) (s : State)
    (htxn : (s.port p).txn = none) (hlo : 0x010000 ≤ addr.toNat) (hhi : addr.toNat < 0x020000)
    (hr : s.hasRight p .overlay = true) :
    ∃ t, exec (.write e p addr data) s = .next t ∧
      (t.port p).prevStatus = (if addr.toNat + data.length ≤ 0x020000 then .ok else .badAddress) ∧
      t.ovl.memory = writeOverlay s.ovl.memory (addr.toNat - 0x010000) (plainPairs data) ∧
      t.mpt = s.mpt ∧ t.store = (s.arrive e).store ∧ t.lra = s.lra ∧ t.ovl.pendingList = s.ovl.pendingList ∧
      t.ovl.active = s.ovl.active := by
  have hexec := exec_write e p addr data s htxn
  rw [takeWrite_region _ p addr data _ _ .overlay (regionOf_overlay _ hlo hhi) rfl (fun _ => rfl) nofun
    ((arrive_hasRight s e p _).trans hr)] at hexec
  have hovl := arrive_ovl s e
  have hmpt := arrive_mpt s e
  have hlra := arrive_lra s e
  generalize s.arrive e = u at hexec hovl hmpt hlra
  have hstatus : accessStatus .overlayMemory (addr.toNat - 0x010000) data.length =
      if addr.toNat + data.length ≤ 0x020000 then .ok else .badAddress := by
    rw [accessStatus, Region.size]
    have hiff : addr.toNat - 0x010000 + data.length ≤ 65536 ↔ addr.toNat + data.length ≤ 0x020000 := by omega
    simp only [hiff]
  refine ⟨_, hexec, (prevStatus_endTxn _ _ _ _).trans hstatus, ?_, hmpt, rfl, hlra, ?_, ?_⟩
  · rw [endTxn_ovl, ← hovl]; rfl
  · rw [endTxn_ovl, ← hovl]; rfl
  · rw [endTxn_ovl, ← hovl]; rfl

section
variable (s : State) (p : Port) (off : Nat) (ps : List (Byte × Byte)) (st : Status) (data : List Byte)

theorem endTxn_pendingInput : (s.endTxn p st data).peu.pendingInput = s.peu.pendingInput := rfl
theorem endTxn_pendingPanel : (s.endTxn p st data).peu.pendingPanel = s.peu.pendingPanel := rfl
theorem endTxn_modeWord : (s.endTxn p st data).peu.modeWord = s.peu.modeWord := rfl

theorem peu_writeRegion_input : (s.writeRegion p .pendingInput off ps).peu = { s.peu with
    pendingInput := InputContract.ofBytes (mergeAt s.peu.pendingInput.bytes off ps) } := rfl
theorem peu_writeRegion_panel : (s.writeRegion p .pendingPanel off ps).peu = { s.peu with
    pendingPanel := PanelContract.ofBytes (mergeAt s.peu.pendingPanel.bytes off ps) } := rfl
theorem ovl_writeRegion_list : (s.writeRegion p .overlayList off ps).ovl = { s.ovl with
    pendingList := planesOfBytes (mergeAt (s.ovl.pendingList.toList.flatMap Plane.bytes) off ps) } := rfl

end

/-- A WRITE to the pending input copy. -/
theorem write_pendingInput (e : Env) (p : Port) (off : Nat) (data : List Byte) (s : State)
    (htxn : (s.port p).txn = none) (ho : off < 64) (hr : s.hasRight p .input = true) :
    ∃ t, exec (.write e p (BitVec.ofNat 24 (0x002000 + off)) data) s = .next t ∧
      (t.port p).prevStatus = (if off + data.length ≤ 64 then .ok else .badAddress) ∧
      t.peu.pendingInput.bytes = (List.range 4).map (writtenByte s.peu.pendingInput.bytes off data inputHeld) ∧
      t.peu.pendingPanel = s.peu.pendingPanel ∧ t.peu.modeWord = s.peu.modeWord ∧
      { t with peu := s.peu } = { s.arrive e with peu := s.peu } := by
  have hexec := exec_write e p (BitVec.ofNat 24 (0x002000 + off)) data s htxn
  rw [takeWrite_region _ p _ data .pendingInput off .input
    (by rw [toNat_address _ _ (by omega)]; exact regionOf_input off ho) rfl (fun _ => rfl) nofun
    ((arrive_hasRight s e p _).trans hr)] at hexec
  have hpeu := arrive_peu s e
  generalize s.arrive e = u at hexec hpeu
  refine ⟨_, hexec, prevStatus_endTxn _ _ _ _, ?_, ?_, ?_, rfl⟩
  · rw [endTxn_pendingInput, peu_writeRegion_input, hpeu, bytes_ofBytes_input _ (length_mergeAt _ _ _)]
    exact heldBytes_mergeAt _ data inputHeld off (heldOnly_input _)
  · rw [endTxn_pendingPanel, peu_writeRegion_input, hpeu]
  · rw [endTxn_modeWord, peu_writeRegion_input, hpeu]

/-- A WRITE to the pending panel copy. -/
theorem write_pendingPanel (e : Env) (p : Port) (off : Nat) (data : List Byte) (s : State)
    (htxn : (s.port p).txn = none) (ho : off < 64) (hr : s.hasRight p .panel = true) :
    ∃ t, exec (.write e p (BitVec.ofNat 24 (0x003000 + off)) data) s = .next t ∧
      (t.port p).prevStatus = (if off + data.length ≤ 64 then .ok else .badAddress) ∧
      t.peu.pendingPanel.bytes = (List.range 44).map (writtenByte s.peu.pendingPanel.bytes off data panelHeld) ∧
      t.peu.pendingInput = s.peu.pendingInput ∧ t.peu.modeWord = s.peu.modeWord ∧
      { t with peu := s.peu } = { s.arrive e with peu := s.peu } := by
  have hexec := exec_write e p (BitVec.ofNat 24 (0x003000 + off)) data s htxn
  rw [takeWrite_region _ p _ data .pendingPanel off .panel
    (by rw [toNat_address _ _ (by omega)]; exact regionOf_panel off ho) rfl (fun _ => rfl) nofun
    ((arrive_hasRight s e p _).trans hr)] at hexec
  have hpeu := arrive_peu s e
  generalize s.arrive e = u at hexec hpeu
  refine ⟨_, hexec, prevStatus_endTxn _ _ _ _, ?_, ?_, ?_, rfl⟩
  · have hmerge := heldBytes_mergeAt _ data panelHeld off (heldOnly_panel s.peu.pendingPanel)
    rw [length_panelBytes] at hmerge
    rw [endTxn_pendingPanel, peu_writeRegion_panel, hpeu,
      bytes_ofBytes_panel _ ((length_mergeAt _ _ _).trans (length_panelBytes _)), hmerge]
  · rw [endTxn_pendingInput, peu_writeRegion_panel, hpeu]
  · rw [endTxn_modeWord, peu_writeRegion_panel, hpeu]

/-- A WRITE to the pending overlay list. -/
theorem write_overlayList (e : Env) (p : Port) (off : Nat) (data : List Byte) (s : State)
    (htxn : (s.port p).txn = none) (ho : off < 512) (hr : s.hasRight p .overlay = true) :
    ∃ t, exec (.write e p (BitVec.ofNat 24 (0x004000 + off)) data) s = .next t ∧
      (t.port p).prevStatus = (if off + data.length ≤ 512 then .ok else .badAddress) ∧
      t.ovl.pendingList.toList.flatMap Plane.bytes = (List.range 512).map
        (writtenByte (s.ovl.pendingList.toList.flatMap Plane.bytes) off data fun j => planeHeld (j % 64)) ∧
      { t with ovl := s.ovl, peu := s.peu } = { s.arrive e with peu := s.peu } ∧
      { t.ovl with pendingList := s.ovl.pendingList } = s.ovl ∧
      { t.peu with ports := s.peu.ports } = s.peu := by
  have hexec := exec_write e p (BitVec.ofNat 24 (0x004000 + off)) data s htxn
  rw [takeWrite_region _ p _ data .overlayList off .overlay
    (by rw [toNat_address _ _ (by omega)]; exact regionOf_list off ho) rfl (fun _ => rfl) nofun
    ((arrive_hasRight s e p _).trans hr)] at hexec
  have hpeu := arrive_peu s e
  have hovl := arrive_ovl s e
  generalize s.arrive e = u at hexec hpeu hovl
  have hmerge := heldBytes_mergeAt _ data listHeld off (heldOnly_planes s.ovl.pendingList)
  rw [length_planes] at hmerge
  refine ⟨_, hexec, prevStatus_endTxn _ _ _ _, ?_, ?_, ?_, ?_⟩
  · rw [endTxn_ovl, ovl_writeRegion_list, hovl, bytes_planesOfBytes _ ((length_mergeAt _ _ _).trans (length_planes _)),
      hmerge]
    rfl
  · rw [← hovl]; rfl
  · rw [endTxn_ovl, ovl_writeRegion_list, hovl]
  · rw [← hpeu]; rfl

/-- Settles O33: each region's WRITE in turn. -/
theorem writeStoresInOverlayMemory : Obligations.WriteStoresInOverlayMemory := by
  refine ⟨fun e p addr data s htxn hlo hhi hr => ?_, write_pendingInput, write_pendingPanel, write_overlayList⟩
  obtain ⟨t, hexec, hstatus, hmemory, hrest⟩ := write_overlayMemory e p addr data s htxn hlo hhi hr
  have hread := fun a => readByte_writeOverlay s.ovl.memory (addr.toNat - 0x010000) data a (by omega)
  refine ⟨t, hexec, hstatus, fun i hi ha => ?_, fun a ha => ?_, hrest⟩
  · rw [hmemory, hread, if_pos (by omega), List.getElem?_eq_getElem hi, Nat.add_sub_cancel_left,
      List.getD_eq_getElem _ _ hi]
  · rw [hmemory, hread, if_neg (by omega)]

end Sys2Proof.Machine
end

section
/-! An accepted FS (R31, R33, R76 to R78): the group period that brings it, and the slot it opens. -/
namespace Sys2Proof.Machine

/-! ## A group period with the same control word on every lane (R19, R28, R29) -/

/-- The state but for the lane records. -/
def State.offLanes (s : State) : State := { s with lra.lanes := { a := LaneRec.reset, b := LaneRec.reset, c := LaneRec.reset } }

theorem offLanes_testGroup (s : State) (d : PerLane Delivery) : (s.testGroup d).offLanes = s.offLanes := by
  unfold State.testGroup
  split
  · refine foldl_keeps State.offLanes _ (fun u l => ?_) _ _
    unfold State.testLane
    split <;> rfl
  · rfl

/-- Outcomes in window count nothing and fault no lane. -/
theorem offLanes_countGroup (s : State) (o : PerLane LaneOutcome) (h : ∀ l, o.get l = .inWindow) :
    (s.countGroup o).offLanes = s.offLanes := by
  have hlost : (allLanes.filter fun l =>
      decide ((s.lane l).state = .active) && (s.lane l).countFaults s.relay.input (o.get l)) = [] :=
    List.filter_eq_nil_iff.mpr fun l _ => by simp [h l, LaneRec.countFaults]
  have hfold : (allLanes.foldl (State.countLane o) s).offLanes = s.offLanes := by
    refine foldl_keeps State.offLanes _ (fun u l => ?_) _ _
    unfold State.countLane
    rw [h l]
    split <;> rfl
  unfold State.countGroup
  dsimp only
  rw [hlost]
  generalize allLanes.foldl (State.countLane o) s = u at hfold ⊢
  exact hfold

/-- A word on every lane. -/
def onEveryLane {α : Type} (x : α) : PerLane α := { a := x, b := x, c := x }

theorem outcomes_inWindow (w : LaneWord) (hw : hasSync w = true) (l : Lane) :
    (outcomes (onEveryLane (.inWindow w))).get l = .inWindow := by
  have h : outcomeOf (.inWindow w) = .inWindow := if_pos hw
  cases l <;> exact h

theorem votingWords_all (s : State) (w : LaneWord) (hw : hasSync w = true) (hact : ∀ l, (s.lane l).state = .active) :
    s.votingWords (onEveryLane (.inWindow w)) = onEveryLane (some w) := by
  have h : deliveredWord (.inWindow w) = some w := if_pos hw
  simp only [State.votingWords, onEveryLane, h, show s.lra.lanes.a.state = .active from hact .a,
    show s.lra.lanes.b.state = .active from hact .b, show s.lra.lanes.c.state = .active from hact .c, if_true]

/-- Three identical MARKs are accepted. -/
theorem useWords_mark (s : State) (w : LaneWord) (hk : wordKind w = .mark) :
    s.useWords .locked (onEveryLane (some w)) = s.takeMark w := by
  have hctl : isControl w = true := by rw [isControl, hk]; rfl
  have hclass : classify .locked [w, w, w] = .control := by
    simp [classify, classifyLocked, kindCount, controlCount, hk, hctl]
  have hvote : votedWord [w, w, w] = some w := by
    simp [votedWord, hctl, sameWord]
  show (match classify .locked [w, w, w] with
    | .pixel => some ((s.loneControl [w, w, w]).pixelGroup (onEveryLane (some w)))
    | .control => s.controlGroup [w, w, w]
    | .idle => some (s.loneControl [w, w, w])
    | .unresolved => some (s.loneControl [w, w, w])) = _
  rw [hclass]
  dsimp only
  rw [State.controlGroup, hvote]
  exact if_neg (by rw [hk]; decide)

/-- A locked group period that brings the same MARK on every lane acts on it, and changes only lane records beside. -/
theorem closeGroup_mark (s : State) (w : LaneWord) (hlock : s.lra.aligner = .locked)
    (hact : ∀ l, (s.lane l).state = .active) (hw : hasSync w = true) (hk : wordKind w = .mark) :
    ∃ u : State, u.offLanes = s.offLanes ∧ s.closeGroup (onEveryLane (.inWindow w)) = u.takeMark w := by
  have htest := offLanes_testGroup s (onEveryLane (.inWindow w))
  have hcount := (offLanes_countGroup (s.testGroup (onEveryLane (.inWindow w))) _ (outcomes_inWindow w hw)).trans htest
  have halign1 : (s.testGroup (onEveryLane (.inWindow w))).lra.aligner = .locked :=
    (congrArg (fun x : State => x.lra.aligner) htest :).trans hlock
  refine ⟨_, hcount, ?_⟩
  have halign2 := (congrArg (fun x : State => x.lra.aligner) hcount :).trans hlock
  unfold State.closeGroup State.takeOutcomes
  simp only [halign1, hlock, votingWords_all s w hw hact, useWords_mark _ w hk]
  exact if_neg fun h => h.elim nofun fun h => absurd (Eq.trans (Eq.symm halign2) h) (by decide)

/-! ## What an accepted FS changes (R14, R31, R33, R74, R77) -/

/-- The registers an accepted FS leaves for its frame, given the frame's size. -/
structure Accepts (s t : State) (w : LaneWord) (width height : Nat) : Prop where
  relayTime : t.relayTime = s.relayTime
  panel : t.relay.panel = s.relay.panel
  input : t.relay.input = s.relay.input
  refused : t.relay.refused = false
  preface : t.lra.preface = s.lra.preface
  number : t.lra.prevFrameNumber = some (frameNumberOf w)
  modeWord : t.peu.modeWord = s.peu.modeWord
  referenceD : t.pacing.referenceD = if s.geometryChange width height then none else s.pacing.referenceD
  penalty : t.pacing.penalty = if s.geometryChange width height then 0 else s.pacing.penalty
  holdReference : t.pacing.holdReference = some s.relayTime
  accepted : t.records.stats.framesAccepted = bump s.records.stats.framesAccepted
  usable : t.store.usable = s.store.usable
  states : ∀ k, (t.slot k).state = (s.slot k).state
  scanOut : t.sco = s.sco

theorem offRelay_takeMode (s : State) (m : FrameMode) :
    (s.takeMode m).offRelay = State.offRelay { s with relay.lastMode := some m } := by
  unfold State.takeMode
  dsimp only
  split <;> rfl

theorem holdReference_takeMode (s : State) (m : FrameMode) :
    (s.takeMode m).pacing.holdReference = s.pacing.holdReference := by
  unfold State.takeMode
  dsimp only
  split <;> rfl

/-- The state but for the pacing engine and the slots. -/
def State.offPacing (s : State) : State :=
  { s with pacing := Pacing.reset, store.slots := Vector.replicate 5 Slot.reset }

theorem offPacing_takeArrival (s : State) (width height : Nat) : (s.takeArrival width height).offPacing = s.offPacing := by
  unfold State.takeArrival
  dsimp only
  split
  · rfl
  · split <;> rfl

/-- A geometry change clears the reference D and the penalty; an accepted FS of the same size leaves them (R74). -/
theorem pacing_takeArrival (s : State) (width height : Nat) :
    (s.takeArrival width height).pacing.referenceD = (if s.geometryChange width height then none else s.pacing.referenceD) ∧
      (s.takeArrival width height).pacing.penalty = (if s.geometryChange width height then 0 else s.pacing.penalty) ∧
      (s.takeArrival width height).pacing.holdReference = s.pacing.holdReference := by
  unfold State.takeArrival
  dsimp only
  split
  · exact ⟨rfl, rfl, rfl⟩
  · split <;> exact ⟨rfl, rfl, rfl⟩

/-- A lock's marks on stored frames leave the slots' states. -/
theorem slot_state_takeArrival (s : State) (width height : Nat) (k : Fin 5) :
    ((s.takeArrival width height).slot k).state = (s.slot k).state := by
  have hmark : (s.pacingLock.slot k).state = (s.slot k).state := by
    show (((s.store.slots.map fun r => if r.state = .free then r else { r with predatesReference := true })[k])).state = _
    simp only [Fin.getElem_fin, Vector.getElem_map]
    split <;> rfl
  unfold State.takeArrival
  dsimp only
  split
  · exact hmark
  · split <;> rfl

/-- The relay controller's part of an accepted FS: the refused condition cleared, the arrival and the mode recorded. -/
def State.modeTaken (s : State) : State :=
  let s1 := State.reevaluate { s with relay.refused := false }
  let s2 := { s1 with relay.lastAccepted := some s.relayTime, pacing.holdReference := some s.relayTime }
  s2.takeMode (frameModeFor s2.lowlag s2.lra.preface.lowlag)

theorem acceptFrame_eq (s : State) (w : LaneWord) (width height : Nat) :
    s.acceptFrame w width height = (s.modeTaken.takeArrival width height).countFrame w := rfl

theorem modeTaken_keeps (s : State) : (∃ m, s.modeTaken.offRelay = State.offRelay { s with
      relay.refused := false, relay.lastAccepted := some s.relayTime, relay.lastMode := some m }) ∧
    s.modeTaken.pacing.holdReference = some s.relayTime := by
  have h1 := offRelay_reevaluate { s with relay.refused := false }
  rw [State.modeTaken]
  dsimp only
  generalize State.reevaluate { s with relay.refused := false } = u at h1
  generalize frameModeFor _ _ = m
  refine ⟨⟨m, ?_⟩, holdReference_takeMode _ m⟩
  rw [offRelay_takeMode]
  exact (congrArg (fun x : State => State.offRelay { x with
    relay.lastAccepted := some s.relayTime, relay.lastMode := some m }) h1 :)

theorem accepts_acceptFrame (s : State) (w : LaneWord) (width height : Nat) :
    Accepts s (s.acceptFrame w width height) w width height := by
  obtain ⟨⟨m, hv⟩, hhold⟩ := modeTaken_keeps s
  rw [acceptFrame_eq]
  generalize s.modeTaken = v at hv hhold
  have hstore : v.store = s.store := (congrArg State.store hv :)
  have hsize : v.pacing.prevSize = s.pacing.prevSize := (congrArg (fun x : State => x.pacing.prevSize) hv :)
  have hgeometry : v.geometryChange width height = s.geometryChange width height := by
    rw [State.geometryChange, hsize]; rfl
  have hx := offPacing_takeArrival v width height
  obtain ⟨hd, hp, hh⟩ := pacing_takeArrival v width height
  have hstate := slot_state_takeArrival v width height
  rw [hgeometry] at hd hp
  generalize v.takeArrival width height = x at hx hd hp hh hstate
  exact
    { relayTime := Eq.trans (congrArg State.relayTime hx :) (congrArg State.relayTime hv :)
      panel := Eq.trans (congrArg (fun x : State => x.relay.panel) hx :) (congrArg (fun x : State => x.relay.panel) hv :)
      input := Eq.trans (congrArg (fun x : State => x.relay.input) hx :) (congrArg (fun x : State => x.relay.input) hv :)
      refused := Eq.trans (congrArg (fun x : State => x.relay.refused) hx :)
        (congrArg (fun x : State => x.relay.refused) hv :)
      preface := Eq.trans (congrArg (fun x : State => x.lra.preface) hx :)
        (congrArg (fun x : State => x.lra.preface) hv :)
      number := rfl
      modeWord := Eq.trans (congrArg (fun x : State => x.peu.modeWord) hx :)
        (congrArg (fun x : State => x.peu.modeWord) hv :)
      referenceD := hd.trans (by rw [show v.pacing.referenceD = s.pacing.referenceD from
        (congrArg (fun x : State => x.pacing.referenceD) hv :)])
      penalty := hp.trans (by rw [show v.pacing.penalty = s.pacing.penalty from
        (congrArg (fun x : State => x.pacing.penalty) hv :)])
      holdReference := hh.trans hhold
      accepted := congrArg bump (Eq.trans (congrArg (fun x : State => x.records.stats.framesAccepted) hx :)
        (congrArg (fun x : State => x.records.stats.framesAccepted) hv :))
      usable := Eq.trans (congrArg (fun x : State => x.store.usable) hx :)
        (congrArg (fun x : State => x.store.usable) hv :)
      states := fun k => (hstate k).trans (by rw [State.slot, hstore]; rfl)
      scanOut := Eq.trans (congrArg State.sco hx :) (congrArg State.sco hv :) }

/-- The frame's mode comes from the mode word and the held preface. -/
theorem frameMode_eq (s : State) : s.frameMode = frameModeFor s.lowlag s.lra.preface.lowlag := by
  have h := offRelay_reevaluate { s with relay.refused := false }
  rw [State.frameMode]
  generalize State.reevaluate { s with relay.refused := false } = u at h
  have hword : u.peu.modeWord = s.peu.modeWord := (congrArg (fun x : State => x.peu.modeWord) h :)
  have hpreface : u.lra.preface = s.lra.preface := (congrArg (fun x : State => x.lra.preface) h :)
  rw [State.lowlag, hword, hpreface]
  rfl

/-! ## The slot (R58) -/

/-- Counting pins down leaves which slots are FREE. -/
theorem lowestFree_congr {s t : State} (hu : t.store.usable = s.store.usable)
    (h : ∀ k, (t.slot k).state = (s.slot k).state) : t.lowestFree = s.lowestFree := by
  rw [State.lowestFree, State.lowestFree, State.usableSlots, State.usableSlots, hu]
  simp only [h]

/-- What the countdown of pins leaves. -/
def State.offPins (s : State) : State :=
  { s with choices := 0, store.pins := { system := none, link := none }, store.slots := Vector.replicate 5 Slot.reset
           peu.ports := { system := PortCtl.reset, link := PortCtl.reset } }

theorem offPins_expirePin (reason : Nat) (s : State) (p : Port) : (s.expirePin reason p).offPins = s.offPins := by
  have h : (s.dropPin p).offPins = s.offPins := by
    unfold State.dropPin
    split <;> rfl
  exact h

theorem countDownPins_keeps (s : State) :
    s.countDownPins.offPins = s.offPins ∧ ∀ k, (s.countDownPins.slot k).state = (s.slot k).state := by
  refine ⟨?_, fun k => ?_⟩
  · rw [State.countDownPins, State.eachFree, foldl_keeps State.offPins (State.expirePin 1) (offPins_expirePin 1)]
    rfl
  · rw [State.countDownPins, State.eachFree, foldl_keeps (fun u => (u.slot k).state) (State.expirePin 1) fun u p =>
      (slot_dropPin u p k).1]
    rfl

/-- With a slot FREE and a scan in progress, an accepted FS puts its frame into the lowest FREE slot, and ends no hold. -/
theorem openFrame_of_free (s : State) (w : LaneWord) (width height : Nat) (k : Fin 5) (hk : s.lowestFree = some k)
    (hs : s.sco.state = .scanning) : s.openFrame w width height =
      some ((s.acceptFrame w width height).countDownPins.installFrame k
        ((s.acceptFrame w width height).openedSlot w s.frameMode width height)) := by
  have ha := accepts_acceptFrame s w width height
  obtain ⟨hpins, hstate⟩ := countDownPins_keeps (s.acceptFrame w width height)
  have hfree : (s.acceptFrame w width height).countDownPins.lowestFree = some k := by
    rw [← hk]
    exact lowestFree_congr ((congrArg (fun x : State => x.store.usable) hpins :).trans ha.usable)
      fun j => (hstate j).trans (ha.states j)
  have htake : (s.acceptFrame w width height).countDownPins.takeSlot =
      some (k, (s.acceptFrame w width height).countDownPins) := by
    rw [State.takeSlot, hfree]
  have hsco : (s.acceptFrame w width height).countDownPins.sco = s.sco :=
    Eq.trans (congrArg State.sco hpins :) ha.scanOut
  show (match (s.acceptFrame w width height).countDownPins.takeSlot with
    | some (k, u) => some ((u.installFrame k
        ((s.acceptFrame w width height).openedSlot w s.frameMode width height)).exitHold .fs)
    | none => none) = _
  rw [htake]
  refine congrArg some (exitHold_of_not_holding _ _ ?_)
  show (s.acceptFrame w width height).countDownPins.sco.state ≠ .holding
  rw [hsco, hs]
  decide

/-! ## The lead (R78) -/

/-- The model's lead, whose subtractions stop at 0, is the signed formula of R78. -/
theorem leadFor_signed (dRef n o sEff g level : Nat) : (leadFor dRef n o sEff g level : Int) =
    min (max 0 (max (ceilDiv dRef n : Int) ((dRef : Int) - (sEff * (n - 1) / n : Nat)) + ceilDiv (2 * sEff) n - o) +
      g + level * ceilDiv sEff n) 65535 := by
  simp only [leadFor]
  rw [← Nat.cast_mul level]
  generalize level * ceilDiv sEff n = step
  generalize sEff * (n - 1) / n = span
  omega

/-! ## The FS -/

/-- An FS in GAP, out of SEARCH and IDLE, whose preface is not refused. -/
theorem takeMark_fs (s : State) (w : LaneWord) (x y : BitVec 32) (hc : wordCode w = 1) (hgap : s.lra.assembly = .gap)
    (hlock : s.lra.aligner = .locked) (hidle : s.relay.state ≠ .idle)
    (hr : s.lra.preface.refusal s.contract.pw s.contract.ph s.relay.input.depths = none)
    (hx : s.lra.preface.width = some x) (hy : s.lra.preface.height = some y) :
    s.takeMark w = s.clearRejoin.openFrame w x.toNat y.toNat := by
  have hnone : s.receiving = none := by rw [State.receiving, hgap]; rfl
  have hmark : s.takeMark w = s.frameStart w := by rw [State.takeMark, hc]; rfl
  have hkeep : s.cutAtBoundary.clearRejoin = s.clearRejoin := by rw [cutAtBoundary_of_none s hnone]
  have hr' : s.clearRejoin.lra.preface.refusal s.clearRejoin.contract.pw s.clearRejoin.contract.ph
      s.clearRejoin.relay.input.depths = none := hr
  have hx' : s.clearRejoin.lra.preface.width = some x := hx
  have hy' : s.clearRejoin.lra.preface.height = some y := hy
  rw [hmark, State.frameStart]
  dsimp only
  rw [hkeep, if_neg (show s.clearRejoin.lra.aligner ≠ .search by rw [show s.clearRejoin.lra.aligner = _ from hlock]; decide),
    if_neg (show s.clearRejoin.relay.state ≠ .idle from hidle), hr', hx', hy']
  rfl

/-- A preface that is not refused holds a depth. -/
theorem depth_of_accepted (h : Preface) (pw ph : Nat) (depths : BitVec 3) (hr : h.refusal pw ph depths = none) :
    h.depth ≠ none := by
  intro hd
  have hno : Preface.depthAccepted depths h.depth = false := by rw [hd]; rfl
  rw [Preface.refusal, hno] at hr
  revert hr
  split
  · exact nofun
  · split <;> exact nofun

/-- What an accepted FS leaves as the event ends: its frame in the lowest FREE slot, the assembly RECEIVING, the
controller's and the counters' registers. -/
theorem frameStart_settle (s before : State) (w : LaneWord) (width height : Nat) (k : Fin 5)
    (hk : s.lowestFree = some k) (hs : s.sco.state = .scanning) :
    ∃ u a, s.openFrame w width height = some u ∧ Accepts s a w width height ∧
      (u.settle before).slot k = a.openedSlot w s.frameMode width height ∧
      (u.settle before).lra.assembly = .receiving ∧ (u.settle before).lra.linesDone = 0 ∧
      (u.settle before).lra.groupIndex = 0 ∧ (u.settle before).relay.refused = false ∧
      (u.settle before).lra.prevFrameNumber = some (frameNumberOf w) ∧
      (u.settle before).pacing.holdReference = some s.relayTime ∧
      (u.settle before).records.stats.framesAccepted = bump s.records.stats.framesAccepted := by
  have ha := accepts_acceptFrame s w width height
  obtain ⟨hpins, _⟩ := countDownPins_keeps (s.acceptFrame w width height)
  refine ⟨_, s.acceptFrame w width height, openFrame_of_free s w width height k hk hs, ha, ?_⟩
  generalize s.acceptFrame w width height = a at ha hpins
  generalize a.countDownPins = b at hpins
  have hscan : (b.installFrame k (a.openedSlot w s.frameMode width height)).sco.state = .scanning := by
    show b.sco.state = _
    rw [show b.sco = a.sco from (congrArg State.sco hpins :), ha.scanOut, hs]
  have hoff := offMemory_settle_of_scanning _ before hscan
  have hslot : (b.installFrame k (a.openedSlot w s.frameMode width height)).slot k =
      a.openedSlot w s.frameMode width height :=
    slot_modSlot_same b k fun _ => a.openedSlot w s.frameMode width height
  generalize a.openedSlot w s.frameMode width height = r at hoff hslot
  generalize State.settle _ before = t at hoff
  refine ⟨(slot_of_offMemory hoff k).trans hslot, (congrArg (fun x : State => x.lra.assembly) hoff :),
    (congrArg (fun x : State => x.lra.linesDone) hoff :), (congrArg (fun x : State => x.lra.groupIndex) hoff :), ?_, ?_, ?_, ?_⟩
  · exact Eq.trans (congrArg (fun x : State => x.relay.refused) hoff :)
      (Eq.trans (congrArg (fun x : State => x.relay.refused) hpins :) ha.refused)
  · exact Eq.trans (congrArg (fun x : State => x.lra.prevFrameNumber) hoff :)
      (Eq.trans (congrArg (fun x : State => x.lra.prevFrameNumber) hpins :) ha.number)
  · exact Eq.trans (congrArg (fun x : State => x.pacing.holdReference) hoff :)
      (Eq.trans (congrArg (fun x : State => x.pacing.holdReference) hpins :) ha.holdReference)
  · exact Eq.trans (congrArg (fun x : State => x.records.stats.framesAccepted) hoff :)
      (Eq.trans (congrArg (fun x : State => x.records.stats.framesAccepted) hpins :) ha.accepted)

theorem Accepts.congr {s v a : State} {w : LaneWord} {width height : Nat} (h : v.offLanes = s.offLanes)
    (ha : Accepts v a w width height) : Accepts s a w width height := by
  have hoff : Accepts v.offLanes a w width height := { ha with }
  rw [h] at hoff
  exact { hoff with }

theorem geometryChange_eq (s : State) (width height : Nat) :
    s.geometryChange width height = s.pacing.prevSize.any fun z => decide (z ≠ (width, height)) := by
  rw [State.geometryChange]
  cases s.pacing.prevSize <;> rfl

/-- The slot an accepted FS opens, by the registers from before it. -/
theorem openedSlot_of_accepts {s a : State} {w : LaneWord} {width height : Nat} (ha : Accepts s a w width height)
    (m : FrameMode) (pl : Nat × Nat × Nat) (n : Nat)
    (hpl : pl = placementFor s.scalePermit s.contract.pw s.contract.ph width height)
    (hn : n = ceilDiv height s.relay.input.sliceHeight) :
    a.openedSlot w m width height = { Slot.reset with
      state := .filling, frameNumber := frameNumberOf w, width := width, height := height
      depth := (s.lra.preface.depth.map BitVec.toNat).getD 0
      rate := s.lra.preface.rate, declared := s.lra.preface.declared, lowlag := s.lra.preface.lowlag
      mode := some m, scale := pl.1, x0 := pl.2.1, y0 := pl.2.2, sliceHeight := s.relay.input.sliceHeight, slices := n
      arrival := s.relayTime, lead := a.leadOf m pl.1 pl.2.2 height n
      leadGate := (a.leadOf m pl.1 pl.2.2 height n).map fun x => { origin := s.relayTime, span := x } } := by
  have hcontract : a.contract = s.contract := by rw [State.contract, ha.panel]; rfl
  have hpermit : a.scalePermit = s.scalePermit := by rw [State.scalePermit, ha.modeWord]; rfl
  subst hpl hn
  rw [State.openedSlot, hcontract, hpermit, ha.input, ha.preface, ha.relayTime]

/-- The lead of a PASS frame (R76 to R78): the reference D and the penalty as a geometry change leaves them. -/
theorem leadOf_pass {s a : State} {w : LaneWord} {width height : Nat} (ha : Accepts s a w width height)
    (scale y0 n sEff : Nat) (hs : sEff = s.contract.span * scale * height / s.contract.ph) :
    a.leadOf .pass scale y0 height n = some (leadFor
      (max 1 (min ((if s.geometryChange width height then none else s.pacing.referenceD).getD sEff) 1000000)) n
      (s.contract.span * y0 / s.contract.ph) sEff s.contract.guardTime
      (if s.geometryChange width height then 0 else s.pacing.penalty)) := by
  have hcontract : a.contract = s.contract := by rw [State.contract, ha.panel]; rfl
  subst hs
  rw [State.leadOf, hcontract, ha.referenceD, ha.penalty]
  rfl

theorem entry_reset (j : Nat) : Slot.reset.entry j = SliceEntry.reset := by
  simp only [Slot.entry, Slot.reset, Vector.getElem?_replicate]
  split <;> rfl

/-- The group period that brings an acceptable FS on every lane. -/
theorem groupPeriod_fs (e : Env) (w : LaneWord) (k : Fin 5) (x y : BitVec 32) (s : State)
    (hlock : s.lra.aligner = .locked) (hact : ∀ l, (s.lane l).state = .active) (hscan : s.sco.state = .scanning)
    (hgap : s.lra.assembly = .gap) (hidle : s.relay.state ≠ .idle)
    (hr : s.lra.preface.refusal s.contract.pw s.contract.ph s.relay.input.depths = none)
    (hx : s.lra.preface.width = some x) (hy : s.lra.preface.height = some y) (hk : s.lowestFree = some k)
    (hw : hasSync w = true) (hkind : wordKind w = .mark) (hcode : wordCode w = 1) :
    ∃ t a, exec (.groupPeriod e (onEveryLane (.inWindow w))) s = .next t ∧ Accepts (s.arrive e) a w x.toNat y.toNat ∧
      t.slot k = a.openedSlot w (frameModeFor s.lowlag s.lra.preface.lowlag) x.toNat y.toNat ∧
      t.lra.assembly = .receiving ∧ t.lra.linesDone = 0 ∧ t.lra.groupIndex = 0 ∧ t.relay.refused = false ∧
      t.lra.prevFrameNumber = some (frameNumberOf w) ∧ t.pacing.holdReference = some (s.arrive e).relayTime ∧
      t.records.stats.framesAccepted = bump s.records.stats.framesAccepted := by
  obtain ⟨v, hv, hclose⟩ := closeGroup_mark (s.arrive e) w (by rw [arrive_lra]; exact hlock)
    (fun l => by rw [arrive_lane]; exact hact l) hw hkind
  have hv' : v.clearRejoin.offLanes = (s.arrive e).offLanes := hv
  have hrelay : v.relay = s.relay := (congrArg State.relay hv :).trans (arrive_relay s e)
  have hcontract : v.contract = s.contract := by rw [State.contract, hrelay]; rfl
  have hpreface : v.lra.preface = s.lra.preface :=
    Eq.trans (congrArg (fun z : State => z.lra.preface) hv :) (congrArg Lra.preface (arrive_lra s e) :)
  have hfs := takeMark_fs v w x y hcode
    ((congrArg (fun z : State => z.lra.assembly) hv :).trans ((congrArg Lra.assembly (arrive_lra s e)).trans hgap))
    ((congrArg (fun z : State => z.lra.aligner) hv :).trans ((congrArg Lra.aligner (arrive_lra s e)).trans hlock))
    (by rw [hrelay]; exact hidle) (by rw [hpreface, hcontract, hrelay]; exact hr) (by rw [hpreface]; exact hx)
    (by rw [hpreface]; exact hy)
  have hfree : v.clearRejoin.lowestFree = some k := by
    rw [← hk]
    refine lowestFree_congr ((congrArg (fun z : State => z.store.usable) hv :).trans (arrive_usable s e)) fun j => ?_
    exact Eq.trans (congrArg (fun z : State => (z.slot j).state) hv :) (arrive_slot_state s e j)
  have hscan' : v.clearRejoin.sco.state = .scanning :=
    (congrArg (fun z : State => z.sco.state) hv :).trans ((congrArg ScanOut.state (arrive_sco s e)).trans hscan)
  have hmode : v.clearRejoin.frameMode = frameModeFor s.lowlag s.lra.preface.lowlag := by
    have hword : v.peu.modeWord = s.peu.modeWord :=
      (congrArg (fun z : State => z.peu.modeWord) hv :).trans (congrArg Peu.modeWord (arrive_peu s e))
    rw [frameMode_eq, State.lowlag, show v.clearRejoin.peu.modeWord = _ from hword,
      show v.clearRejoin.lra.preface = _ from hpreface]
    rfl
  obtain ⟨u, a, hopen, haccepts, hslot, hassembly, hlines, hgroup, hrefused, hnumber, hhold, hcount⟩ :=
    frameStart_settle v.clearRejoin (s.arrive e) w x.toNat y.toNat k hfree hscan'
  have ha : Accepts (s.arrive e) a w x.toNat y.toNat := haccepts.congr hv'
  have hexec := exec_groupPeriod e (onEveryLane (.inWindow w)) s u (by rw [hclose, hfs, hopen])
  rw [hmode] at hslot
  exact ⟨_, a, hexec, ha, hslot, hassembly, hlines, hgroup, hrefused, hnumber,
    hhold.trans (congrArg (fun z : State => some z.relayTime) hv' :),
    hcount.trans (by rw [show v.clearRejoin.records = s.records from
      Eq.trans (congrArg State.records hv' :) (arrive_records s e)])⟩

/-- Settles O14: the frame's registers are those of the slot record an accepted FS opens. -/
theorem acceptedFrameOpensASlot : Obligations.AcceptedFrameOpensASlot := by
  intro e w k x y s hlock hact hscan hgap hidle hr hx hy hk hw hkind hcode
  obtain ⟨t, a, hexec, ha, hslot, hassembly, hlines, hgroup, hrefused, hnumber, hhold, hcount⟩ :=
    groupPeriod_fs e w k x y s hlock hact hscan hgap hidle hr hx hy hk hw hkind hcode
  have hpl : placementFor s.scalePermit s.contract.pw s.contract.ph x.toNat y.toNat =
      placementFor (s.arrive e).scalePermit (s.arrive e).contract.pw (s.arrive e).contract.ph x.toNat y.toNat := by
    rw [State.scalePermit, State.scalePermit, arrive_contract, arrive_peu]
  rw [openedSlot_of_accepts ha _ _ _ hpl (congrArg (fun z : Relay => ceilDiv y.toNat z.input.sliceHeight)
    (arrive_relay s e)).symm] at hslot
  rw [arrive_lra, arrive_relay] at hslot
  generalize placementFor s.scalePermit s.contract.pw s.contract.ph x.toNat y.toNat = pl at hslot hpl
  have hgeometry : (s.arrive e).geometryChange x.toNat y.toNat =
      s.pacing.prevSize.any fun z => decide (z ≠ (x.toNat, y.toNat)) := by
    rw [geometryChange_eq, arrive_pacing]
  obtain ⟨d, hd⟩ := Option.ne_none_iff_exists'.mp (depth_of_accepted _ _ _ _ hr)
  refine ⟨t, hexec, ?_, ?_, ?_, ?_, ?_, ?_, ?_, ?_, ?_, fun hm => ?_, fun hm changed open_ sEff n dRef level hchanged hopen'
    hsEff hn hdRef hlevel => ?_, ?_, ?_, ?_, ?_, ?_, fun j => ?_, hassembly, hlines, hgroup, hrefused, hnumber,
    hhold, hcount⟩
  · rw [hslot]
  · rw [hslot]
  · rw [hslot]
  · rw [hslot]
  · rw [hslot]
  · rw [hslot, hd]; rfl
  · rw [hslot]
  · rw [hslot]
  · rw [hslot]; rfl
  · rw [hslot, hm]; exact ⟨rfl, rfl⟩
  · have hlead : a.leadOf (frameModeFor s.lowlag s.lra.preface.lowlag) pl.1 pl.2.2 y.toNat
        (ceilDiv y.toNat s.relay.input.sliceHeight) = some (leadFor dRef n open_ sEff s.contract.guardTime level) := by
      rw [hm, leadOf_pass ha pl.1 pl.2.2 _ sEff (by rw [hsEff, hslot, arrive_contract]), hgeometry, ← hchanged,
        arrive_pacing, arrive_contract, ← hdRef, ← hlevel, hopen', hn, hslot]
    rw [hslot]
    dsimp only
    rw [hlead]
    exact ⟨_, rfl, rfl, leadFor_signed _ _ _ _ _ _⟩
  · rw [hslot]
  · rw [hslot]
  · rw [hslot]
  · rw [hslot]
  · rw [hslot]
  · rw [hslot]; exact entry_reset j

end Sys2Proof.Machine
end

section
/-! What the blocks' operations leave of the receiver, and that they keep the bounds of the record unit, the memory path
and pacing: `Aside` for everything but the receiver's own operations. One lemma for each operation; what follows an event
and the bounds of every step are derived from these. -/
namespace Sys2Proof.Machine

/-! ## The receiver's side -/

/-- The receiver's part of the statistics: vote failures, unknown descriptors, faults of each lane. -/
def Stats.receiver (c : Stats) : Nat × Nat × PerLane Nat := (c.voteFailures, c.unknownDescriptors, c.faults)

/-- The three causes of the receiver in one port's set. -/
def PortCtl.receiver (x : PortCtl) : CauseFlags × CauseFlags × CauseFlags :=
  (x.flags .lockLost, x.flags .laneFault, x.flags .formatRefused)

/-- The lane receiver and aligner but for the staging queue, with the input contract's registers, the receiver's
statistics and its causes. -/
structure ReceiverSide where
  lra : Lra
  input : InputContract
  waitingInput : Option InputContract
  stats : Nat × Nat × PerLane Nat
  causes : PerPort (CauseFlags × CauseFlags × CauseFlags)

def State.receiverSide (s : State) : ReceiverSide :=
  { lra := { s.lra with staging := [] }, input := s.relay.input, waitingInput := s.relay.waitingInput,
    stats := s.records.stats.receiver, causes := s.peu.ports.map PortCtl.receiver }

theorem causes_receiverSide (s : State) (p : Port) : s.receiverSide.causes.get p = (s.port p).receiver := by
  simp only [State.receiverSide, PerPort.get_map, State.port]

section
variable {s t : State} (h : t.receiverSide = s.receiverSide)
include h

theorem lane_of_receiverSide (l : Lane) : t.lane l = s.lane l :=
  (congrArg (fun x : ReceiverSide => x.lra.lanes.get l) h :)

theorem input_of_receiverSide : t.relay.input = s.relay.input := (congrArg ReceiverSide.input h :)

theorem receiving_of_receiverSide : t.receiving = s.receiving :=
  (congrArg (fun x : ReceiverSide => if x.lra.assembly = .receiving then x.lra.frame else none) h :)

theorem causes_of_receiverSide (p : Port) : (t.port p).receiver = (s.port p).receiver := by
  rw [← causes_receiverSide, ← causes_receiverSide, h]

theorem laneFault_of_receiverSide (p : Port) : (t.port p).flags .laneFault = (s.port p).flags .laneFault :=
  (congrArg (fun x : _ × CauseFlags × _ => x.2.1) (causes_of_receiverSide h p) :)

end

/-! ## The relation -/

/-- What the bounds of the record unit, the memory path and pacing speak of. -/
def State.measures (s : State) : (List FrameRecord × PerPort Reader × Nat) × List StagedLine × Nat × List Nat × Nat × Nat :=
  ((s.records.ring, s.records.readers, s.records.repeatTally), s.lra.staging, s.mpt.owed, s.pacing.intervals,
    s.pacing.penalty, s.pacing.clean)

/-- From s to t nothing happens to the receiver but to its staging queue, the relay state and its reason stay, and the
bounds of the record unit, the memory path and pacing are kept. -/
structure Aside (s t : State) : Prop where
  receiver : t.receiverSide = s.receiverSide
  relay : t.relay.state = s.relay.state ∧ t.relay.reason = s.relay.reason
  ring : s.RingBounded → t.RingBounded
  queues : s.QueuesBounded → t.QueuesBounded

theorem ringBounded_of_measures {s t : State} (h : t.measures = s.measures) (hs : s.RingBounded) : t.RingBounded := by
  obtain ⟨hring, hreaders, htally⟩ : t.records.ring = s.records.ring ∧ t.records.readers = s.records.readers ∧
      t.records.repeatTally = s.records.repeatTally := by simp_all [State.measures]
  exact ⟨hring ▸ hs.ring, hring ▸ hreaders ▸ hs.unread, hreaders ▸ hs.lost, htally ▸ hs.tally⟩

theorem queuesBounded_of_measures {s t : State} (h : t.measures = s.measures) (hs : s.QueuesBounded) :
    t.QueuesBounded := by
  obtain ⟨hstaging, howed, hintervals, hpenalty, hclean⟩ : t.lra.staging = s.lra.staging ∧ t.mpt.owed = s.mpt.owed ∧
      t.pacing.intervals = s.pacing.intervals ∧ t.pacing.penalty = s.pacing.penalty ∧
      t.pacing.clean = s.pacing.clean := by simp_all [State.measures]
  exact ⟨hstaging ▸ hs.staging, howed ▸ hs.owed, hintervals ▸ hs.intervals, hpenalty ▸ hs.penalty, hclean ▸ hs.clean⟩

theorem Aside.refl (s : State) : Aside s s := ⟨rfl, ⟨rfl, rfl⟩, id, id⟩

theorem Aside.trans {s t u : State} (h : Aside s t) (k : Aside t u) : Aside s u where
  receiver := k.receiver.trans h.receiver
  relay := ⟨k.relay.1.trans h.relay.1, k.relay.2.trans h.relay.2⟩
  ring := k.ring ∘ h.ring
  queues := k.queues ∘ h.queues

/-- The same with the later operation first: its state is read off the goal. -/
theorem Aside.after {s t u : State} (k : Aside t u) (h : Aside s t) : Aside s u := h.trans k

/-- What a plain update of other fields leaves as it is. -/
def State.besides (s : State) := (s.receiverSide, s.relay.state, s.relay.reason, s.measures)

theorem Aside.of_besides {s t : State} (h : t.besides = s.besides) : Aside s t := by
  obtain ⟨hr, h⟩ := Prod.ext_iff.mp h
  obtain ⟨hs, h⟩ := Prod.ext_iff.mp h
  obtain ⟨hn, hm⟩ := Prod.ext_iff.mp h
  exact ⟨hr, ⟨hs, hn⟩, ringBounded_of_measures hm, queuesBounded_of_measures hm⟩

/-- An update of the memory path and of pacing alone, within their bounds. -/
theorem Aside.of_queues {s t : State} (hr : t.receiverSide = s.receiverSide)
    (hs : t.relay.state = s.relay.state ∧ t.relay.reason = s.relay.reason) (hm : t.records = s.records)
    (hq : s.QueuesBounded → t.QueuesBounded) : Aside s t :=
  ⟨hr, hs, fun h => ⟨hm ▸ h.ring, hm ▸ h.unread, hm ▸ h.lost, hm ▸ h.tally⟩, hq⟩

theorem Aside.foldl {α : Type} (f : State → α → State) (h : ∀ s x, Aside s (f s x)) (xs : List α) (s : State) :
    Aside s (xs.foldl f s) := by
  induction xs generalizing s with
  | nil => exact .refl s
  | cons x xs ih => exact (h s x).trans (ih (f s x))

theorem Aside.eachFree {α : Type} (xs : List α) (f : State → α → State) (h : ∀ s x, Aside s (f s x)) (s : State) :
    Aside s (s.eachFree xs f) :=
  (Aside.foldl f h _ _).after (.of_besides rfl)

/-! ## The shared updates -/

/-- The causes that the receiver raises. -/
def receiverCauses : List Cause := [.lockLost, .laneFault, .formatRefused]

theorem receiver_enter (x : PortCtl) (c : Cause) (d : BitVec 16) (h : c ∉ receiverCauses) :
    (x.enter c d).receiver = x.receiver := by
  simp only [receiverCauses, List.mem_cons, List.not_mem_nil, or_false, not_or] at h
  obtain ⟨h1, h2, h3⟩ := h
  simp only [PortCtl.receiver, flags_enter_other _ _ _ _ (Ne.symm h1), flags_enter_other _ _ _ _ (Ne.symm h2),
    flags_enter_other _ _ _ _ (Ne.symm h3)]

theorem aside_modSlot (s : State) (k : Fin 5) (f : Slot → Slot) : Aside s (s.modSlot k f) := .of_besides rfl

theorem aside_raise (s : State) (c : Cause) (d : BitVec 16) (h : c ∉ receiverCauses) : Aside s (s.raise c d) := by
  have hc : (s.raise c d).peu.ports.map PortCtl.receiver = s.peu.ports.map PortCtl.receiver := by
    simp only [State.raise, PerPort.map, receiver_enter _ c d h]
  exact .of_besides (congrArg (fun x => (({ s.receiverSide with causes := x } : ReceiverSide), s.relay.state,
    s.relay.reason, s.measures)) hc)

/-- A port's record may change in all but its causes. -/
theorem aside_setPort (s : State) (p : Port) (x : PortCtl) (h : x.causes = (s.port p).causes) :
    Aside s (s.setPort p x) := by
  have hx : x.receiver = (s.port p).receiver := by simp only [PortCtl.receiver, PortCtl.flags, h]
  have hc : (s.setPort p x).peu.ports.map PortCtl.receiver = s.peu.ports.map PortCtl.receiver := by
    cases p <;> simp only [State.setPort, PerPort.set, PerPort.map, hx] <;> rfl
  exact .of_besides (congrArg (fun x => (({ s.receiverSide with causes := x } : ReceiverSide), s.relay.state,
    s.relay.reason, s.measures)) hc)

theorem aside_stat (s : State) (f : Stats → Stats) (h : ∀ c, (f c).receiver = c.receiver) : Aside s (s.stat f) :=
  .of_besides (congrArg (fun x => (({ s.receiverSide with stats := x } : ReceiverSide), s.relay.state,
    s.relay.reason, s.measures)) (h s.records.stats))

/-! ## Records (chapter 10) -/

/-- A record that joins the ring: the ring holds at most 32, and a port reads no more than it holds (R153, R154). -/
theorem ringBounded_push (s : State) (x : FrameRecord) (h : s.RingBounded) :
    State.RingBounded { s with records := s.records.push x } := by
  have hlen : (s.records.push x).ring.length =
      if 32 ≤ s.records.ring.length then s.records.ring.length else s.records.ring.length + 1 := by
    simp only [Records.push, decide_eq_true_eq]
    split
    · simp; omega
    · simp
  have hreader : ∀ p, (s.records.push x).readers.get p =
      (s.records.readers.get p).onAppend (decide (32 ≤ s.records.ring.length)) := fun p => by
    simp [Records.push]
  have hring := h.ring
  refine ⟨?_, fun p => ?_, fun p => ?_, Nat.zero_le _⟩
  · show (s.records.push x).ring.length ≤ 32
    rw [hlen]; split <;> omega
  · show ((s.records.push x).readers.get p).unread ≤ (s.records.push x).ring.length
    have hu := h.unread p
    rw [hlen, hreader, Reader.onAppend]
    simp only [Bool.and_eq_true, decide_eq_true_eq]
    split
    · rename_i hfull; rw [if_pos hfull.1]; omega
    · dsimp only
      split <;> omega
  · show ((s.records.push x).readers.get p).lost ≤ 255
    rw [hreader, Reader.onAppend]
    split
    · exact Nat.min_le_right _ _
    · exact h.lost p

theorem aside_raiseRecordsWaiting (s : State) (p : Port) : Aside s (s.raiseRecordsWaiting p) :=
  aside_raise s _ _ (by decide)

theorem aside_appendRecord (s : State) (k : Fin 5) (superseded : Bool) (scan : Option NewScanPart) :
    Aside s (s.appendRecord k superseded scan) := by
  have hpush : ∀ x, Aside s { s with records := s.records.push x } := fun x =>
    ⟨rfl, ⟨rfl, rfl⟩, ringBounded_push s x, fun h => ⟨h.staging, h.owed, h.intervals, h.penalty, h.clean⟩⟩
  dsimp only [State.appendRecord]
  exact (Aside.eachFree _ _ aside_raiseRecordsWaiting _).after ((aside_modSlot _ k _).after (hpush _))

theorem aside_recordIfUnrecorded (s : State) (k : Fin 5) : Aside s (s.recordIfUnrecorded k) := by
  unfold State.recordIfUnrecorded
  split
  · exact .refl s
  · exact aside_appendRecord s k _ _

/-! ## Frame store (chapter 3) -/

theorem aside_reevalRepeatDuring (s : State) (scanned : Option (Fin 5)) : Aside s (s.reevalRepeatDuring scanned) := by
  unfold State.reevalRepeatDuring
  split
  · exact .of_besides rfl
  · exact .refl s

theorem aside_reevalRepeat (s : State) : Aside s s.reevalRepeat := by
  unfold State.reevalRepeat
  split
  · exact aside_reevalRepeatDuring s _
  · exact .of_besides rfl

theorem aside_completeIfResolved (s : State) (k : Fin 5) : Aside s (s.completeIfResolved k) := by
  unfold State.completeIfResolved State.completeSlot
  split
  · dsimp only
    refine (aside_reevalRepeat _).after ?_
    split <;> exact .of_besides rfl
  · exact .refl s

theorem aside_checkEntry (s : State) (k : Fin 5) (j : Nat) : Aside s (s.checkEntry k j) := by
  unfold State.checkEntry
  split
  · exact .refl s
  · exact .of_besides rfl
  · exact (aside_completeIfResolved _ k).after ((aside_raise _ _ _ (by decide)).after (aside_modSlot s k _))

theorem aside_lineCompleted (s : State) (k : Fin 5) (y : Nat) (concealed joins : Bool) :
    Aside s (s.lineCompleted k y concealed joins) := by
  unfold State.lineCompleted
  extract_lets s1 j s2
  have h : Aside s s2 := (aside_checkEntry s1 k j).after (aside_modSlot s k _)
  split
  · exact h.trans (aside_modSlot s2 k _)
  · exact h

theorem aside_lineDiscarded (s : State) (k : Fin 5) (y : Nat) : Aside s (s.lineDiscarded k y) :=
  (aside_modSlot _ k fun r => r.damage _).after (aside_checkEntry s k _)

theorem aside_lineWritten (s : State) (l : StagedLine) : Aside s (s.lineWritten l) := by
  unfold State.lineWritten
  split
  · exact (aside_completeIfResolved _ _).after ((aside_modSlot _ _ _).after (aside_checkEntry s _ _))
  · exact .refl s

theorem aside_frameEnded (s : State) (k : Fin 5) : Aside s (s.frameEnded k) :=
  (aside_completeIfResolved _ k).after (aside_modSlot s k _)

theorem aside_cutSlot (s : State) (k : Fin 5) (linesDone : Nat) : Aside s (s.cutSlot k linesDone) :=
  (Aside.foldl _ (fun u j => (aside_modSlot _ k _).after (aside_checkEntry u k j)) _ _).after (aside_modSlot s k _)

theorem aside_freeSlot (s : State) (k : Fin 5) : Aside s (s.freeSlot k) := by
  unfold State.freeSlot
  dsimp only
  refine (aside_reevalRepeat _).after ?_
  split <;> exact .of_besides rfl

theorem aside_takeSlot {s t : State} {k : Fin 5} (h : s.takeSlot = some (k, t)) : Aside s t := by
  rcases takeSlot_cases s t k h with ⟨_, rfl⟩ | ⟨_, rfl⟩
  · exact .refl _
  · exact (aside_freeSlot _ k).after (aside_recordIfUnrecorded s k)

theorem aside_supersede (s : State) (k : Fin 5) : Aside s (s.supersede k) :=
  (aside_stat _ (fun c => { c with supersededFrames := bump c.supersededFrames }) fun _ => rfl).after
    ((aside_modSlot _ k fun r => { r with superseded := true }).after (aside_appendRecord s k true none))

theorem aside_dropPin (s : State) (p : Port) : Aside s (s.dropPin p) := by
  unfold State.dropPin
  split
  · exact .of_besides rfl
  · exact .refl s

theorem aside_expirePins (reason : Nat) (ps : List Port) (s : State) : Aside s (s.eachFree ps (State.expirePin reason)) :=
  Aside.eachFree _ _ (fun u p => (aside_raise _ _ _ (by decide)).after (aside_dropPin u p)) s

theorem aside_countDownPins (s : State) : Aside s s.countDownPins :=
  (aside_expirePins 1 _ _).after (.of_besides rfl)

theorem aside_wakeMemory (s : State) : Aside s s.wakeMemory := by
  unfold State.wakeMemory
  split
  · exact .of_besides rfl
  · exact .refl s

/-! ## Memory port (chapter 8) -/

theorem aside_endCapture (s : State) (p : Port) (st : Status) (data : List Byte) : Aside s (s.endCapture p st data) :=
  (aside_setPort _ p _ (captureResult_causes _ st data)).after (.of_besides rfl)

theorem aside_dropCaptures (s : State) : Aside s s.dropCaptures := by
  have h : ∀ (u : State) p, Aside u (u.dropCapture p) := fun u p => by
    unfold State.dropCapture
    split
    · exact aside_endCapture u p _ _
    · exact .refl u
  exact (h s .system).trans (h _ .link)

/-- Lines leave the staging queue. -/
theorem aside_staging (s : State) (q : List StagedLine) (h : q.length ≤ s.lra.staging.length) :
    Aside s { s with lra.staging := q } :=
  .of_queues rfl ⟨rfl, rfl⟩ rfl fun hs => ⟨h.trans hs.staging, hs.owed, hs.intervals, hs.penalty, hs.clean⟩

/-- The count of owed refreshes changes within its bound. -/
theorem aside_owed (s : State) (n : Nat) (h : s.mpt.owed ≤ 8 → n ≤ 8) : Aside s { s with mpt.owed := n } :=
  .of_queues rfl ⟨rfl, rfl⟩ rfl fun hs => ⟨hs.staging, h hs.owed, hs.intervals, hs.penalty, hs.clean⟩

theorem aside_dropDeadHeads (s : State) : Aside s s.dropDeadHeads := by
  unfold State.dropDeadHeads
  split
  · exact .refl s
  · exact aside_staging s _ (List.dropWhile_sublist _).length_le

theorem aside_emptyStaging (s : State) : Aside s s.emptyStaging :=
  (aside_staging s [] (Nat.zero_le _)).trans (.of_besides rfl)

theorem aside_grantCapture (s : State) (p : Port) : Aside s (s.grantCapture p) := by
  unfold State.grantCapture
  split
  · exact .refl s
  · dsimp only
    split
    · exact .of_besides rfl
    · exact (aside_endCapture _ p _ _).after (.of_besides rfl)

theorem aside_grantOnce (s : State) : Aside s s.grantOnce := by
  unfold State.grantOnce
  split
  · exact .of_besides rfl
  · split
    · exact .of_besides rfl
    · split
      · exact .of_besides rfl
      · split
        · exact .of_besides rfl
        · split
          · exact aside_grantCapture s _
          · exact .refl s

theorem aside_arbitrateFor (n : Nat) (s : State) : Aside s (State.arbitrateFor n s) := by
  induction n generalizing s with
  | zero => exact .refl s
  | succ n ih =>
    unfold State.arbitrateFor
    split
    · exact (aside_grantOnce s).trans (ih _)
    · exact .refl s

theorem aside_checkRest (s : State) : Aside s s.checkRest := by
  unfold State.checkRest State.enterSelfRefresh State.retain
  split
  · exact (Aside.foldl _ aside_freeSlot _ _).after ((Aside.eachFree _ _ aside_recordIfUnrecorded _).after
      ((aside_owed s 0 fun _ => Nat.zero_le _).trans (.of_besides rfl)))
  · exact .refl s

theorem aside_settleMemory (s : State) : Aside s s.settleMemory :=
  (aside_checkRest _).after ((aside_arbitrateFor 3 _).after ((aside_checkRest _).after (aside_dropDeadHeads s)))

theorem aside_memoryAwake (s : State) : Aside s s.memoryAwake :=
  (aside_owed s 0 fun _ => Nat.zero_le _).trans (.of_besides rfl)

theorem aside_finishStagingWrite (s : State) (l : StagedLine) (addr : Nat) (queued : Bool) :
    Aside s (s.finishStagingWrite l addr queued) := by
  have hq : Aside s { s with lra.staging := if queued then s.lra.staging.drop 1 else s.lra.staging } :=
    aside_staging s _ (by split <;> simp)
  exact (aside_lineWritten _ l).after (hq.trans (.of_besides rfl))

theorem aside_finishCaptureRead (s : State) (p : Port) (r : CaptureRead) (addr : Nat) (wanted : Bool) :
    Aside s (s.finishCaptureRead p r addr wanted) := by
  unfold State.finishCaptureRead
  dsimp only
  split
  · exact (aside_endCapture _ p _ _).after (.of_besides rfl)
  · exact .of_besides rfl

theorem aside_finishRefresh (s : State) : Aside s s.finishRefresh :=
  (aside_owed s (s.mpt.owed - 1) fun h => (Nat.sub_le _ _).trans h).trans (.of_besides rfl)

/-! ## Scan-out (chapter 5) -/

theorem aside_reportSlice (s : State) (cls : Option SliceClass) : Aside s (s.reportSlice cls) := by
  unfold State.reportSlice
  split
  · exact .of_besides rfl
  · exact .of_besides rfl
  · exact .refl s

theorem aside_askFallback (s : State) (c : Scan) (k : Fin 5) (j : Nat) : Aside s (s.askFallback c k j).1 := by
  unfold State.askFallback
  split
  · exact .refl s
  · split
    · split
      · exact .refl s
      · exact aside_checkEntry s _ j
    · exact .refl s

theorem aside_modScan (s : State) (f : Scan → Scan) : Aside s (s.modScan f) := .of_besides rfl

theorem aside_fetchSlice (s : State) (j : Nat) : Aside s (s.fetchSlice j) := by
  unfold State.fetchSlice
  split
  · exact .refl s
  · split
    · rename_i c _ _ _ k p _ _
      extract_lets s1 r d s2
      have h1 : Aside s r.1 := (aside_askFallback s1 c k j).after (aside_checkEntry s k j)
      have h2 : Aside s s2 := (aside_reportSlice _ _).after ((aside_modScan _ _).after h1)
      exact h2.trans (.of_besides rfl)
    · exact .refl s

theorem aside_fetchAt (s : State) (y : Nat) : Aside s (s.fetchAt y) := by
  unfold State.fetchAt
  split
  · exact Aside.foldl _ aside_fetchSlice _ _
  · exact .refl s

theorem aside_missedRead (s : State) (j : Nat) (d : SliceDecision) : Aside s (s.missedRead j d) :=
  (aside_reportSlice _ _).after (aside_modScan s _)

theorem aside_baseLine (s : State) (c : Scan) (y : Nat) : Aside s (s.baseLine c y).1 := by
  unfold State.baseLine
  split
  · exact .refl s
  · split
    · dsimp only
      split
      · exact .refl s
      · exact .refl s
      all_goals
        split
        · exact .refl s
        · exact aside_missedRead s _ _
    · exact .refl s

theorem aside_drawNext (s : State) : Aside s s.drawNext := by
  unfold State.drawNext
  split
  · exact .refl s
  · dsimp only
    split
    · exact aside_fetchAt s _
    · exact Aside.trans ((aside_baseLine _ _ _).after (aside_fetchAt s _)) (.of_besides rfl)

/-- The penalty level stays at most 4 and the clean count at most 15 (R79). -/
theorem aside_afterScan (s : State) (late : Nat) : Aside s { s with pacing := s.pacing.afterScan late } := by
  refine .of_queues rfl ⟨rfl, rfl⟩ rfl fun h => ?_
  have hp := h.penalty
  have hc := h.clean
  have hkeep : (s.pacing.afterScan late).intervals = s.pacing.intervals ∧ (s.pacing.afterScan late).penalty ≤ 4 ∧
      (s.pacing.afterScan late).clean ≤ 15 := by
    unfold Pacing.afterScan
    split
    · exact ⟨rfl, Nat.min_le_right _ _, Nat.zero_le _⟩
    · split
      · exact ⟨rfl, hp, by assumption⟩
      · exact ⟨rfl, (Nat.sub_le _ _).trans hp, Nat.zero_le _⟩
  obtain ⟨hi, hp', hc'⟩ := hkeep
  exact ⟨h.staging, h.owed, (congrArg List.length hi).trans_le h.intervals, hp', hc'⟩

theorem aside_reportNewScan (s : State) (c : Scan) (k : Fin 5) : Aside s (s.reportNewScan c k) := by
  unfold State.reportNewScan
  extract_lets part s1 s2 s3
  have h2 : Aside s s2 := by
    simp only [s2]
    split
    · exact (aside_raise _ _ _ (by decide)).after (aside_appendRecord s k _ _)
    · exact aside_appendRecord s k _ _
  have h3 : Aside s s3 := h2.trans (aside_modSlot s2 k _)
  split
  · exact h3.trans (aside_afterScan s3 _)
  · exact h3

theorem aside_endScan (s : State) (c : Scan) (ending : ScanEnding) : Aside s (s.endScan c ending) := by
  unfold State.endScan
  split <;> exact .of_besides rfl

theorem aside_closeScan (s : State) (c : Scan) : Aside s (s.closeScan c) := by
  have hr : Aside s ((s.send .scanClose).reportClose c) := by
    unfold State.reportClose
    split
    · exact (aside_reportNewScan _ c _).after (.of_besides rfl)
    · exact .of_besides rfl
  rw [closeScan_eq]
  exact (hr.trans (aside_endScan _ c _)).trans (.of_besides rfl)

/-! ## Pacing engine (chapter 4) -/

theorem aside_pacing (s : State) (p : Pacing) (h : s.QueuesBounded → p.intervals.length ≤ 8 ∧ p.penalty ≤ 4 ∧ p.clean ≤ 15) :
    Aside s { s with pacing := p } :=
  .of_queues rfl ⟨rfl, rfl⟩ rfl fun hs => by
    obtain ⟨hi, hp, hc⟩ := h hs
    exact ⟨hs.staging, hs.owed, hi, hp, hc⟩

theorem aside_pacingLock (s : State) : Aside s s.pacingLock :=
  Aside.trans (t := s.markPredating) (.of_besides rfl) (aside_pacing _ _ fun _ => ⟨by simp, by simp, by simp⟩)

/-- The interval history holds at most eight (R73). -/
theorem aside_takeArrival (s : State) (w h : Nat) : Aside s (s.takeArrival w h) := by
  have hjoin : ∀ (xs : List Nat) i, xs.length ≤ 8 → (joinInterval xs i).length ≤ 8 := fun xs i hx => by
    unfold joinInterval
    split <;> simp <;> omega
  unfold State.takeArrival
  dsimp only
  split
  · exact (aside_pacingLock s).trans (.of_besides rfl)
  · split
    · exact aside_pacing s _ fun hs => ⟨hjoin _ _ hs.intervals, hs.penalty, hs.clean⟩
    · exact .of_besides rfl

theorem aside_pacingRelayout (s : State) : Aside s s.pacingRelayout :=
  aside_pacing s _ fun _ => ⟨by simp, by simp, by simp⟩

/-- Beyond the cut of a frame being received, a relayout leaves the receiver aside. -/
theorem aside_relayout (s : State) (c : PanelContract) : Aside s.cutAtBoundary (s.relayout c) := by
  unfold State.relayout
  extract_lets s1 _ s2
  have h1 : Aside s.cutAtBoundary s1 :=
    (aside_dropCaptures _).after ((aside_expirePins 2 _ _).after (aside_emptyStaging _))
  have h2 : Aside s.cutAtBoundary s2 := h1.trans (.of_besides rfl)
  exact (aside_pacingRelayout s2).after h2

theorem aside_planRepeats (s : State) : Aside s s.planRepeats := by
  unfold State.planRepeats
  dsimp only
  split
  · split <;> exact .of_besides rfl
  · exact .of_besides rfl

theorem aside_predict (s : State) (k : Fin 5) : Aside s (s.predict k) := by
  unfold State.predict
  split <;> exact .of_besides rfl

theorem aside_openNew (s : State) (k : Fin 5) : Aside s (s.openNew k) := by
  unfold State.openNew
  extract_lets s1 s2 p s3
  have h2 : Aside s s2 := (aside_modSlot s1 k _).after (Aside.eachFree _ _ aside_supersede s)
  have h3 : Aside s s3 := (aside_reevalRepeatDuring _ (some k)).after (h2.trans (.of_besides rfl))
  exact (aside_planRepeats _).after ((aside_predict s3 k).after h3)

/-- The repeat tally stops at 65,535 (R153). -/
theorem aside_openRepeat (s : State) (k : Fin 5) : Aside s (s.openRepeat k) :=
  ⟨rfl, ⟨rfl, rfl⟩, fun h => ⟨h.ring, h.unread, h.lost, Nat.min_le_right _ _⟩,
    fun h => ⟨h.staging, h.owed, h.intervals, h.penalty, h.clean⟩⟩

theorem aside_openKind (s : State) (kind : ScanKind) (k : Option (Fin 5)) : Aside s (s.openKind kind k) := by
  unfold State.openKind
  split
  · exact aside_openNew s _
  · exact aside_openRepeat s _
  · exact .of_besides rfl

theorem aside_installOverlay (s : State) (kind : ScanKind) : Aside s (s.installOverlay kind) := by
  unfold State.installOverlay
  split
  · exact .refl s
  · exact (aside_raise _ _ _ (by decide)).after (.of_besides rfl)

theorem aside_openAs (s : State) (kind : ScanKind) (k fallback : Option (Fin 5)) : Aside s (s.openAs kind k fallback) := by
  have ho : Aside s (((s.recordOpen kind).openKind kind k).installOverlay kind) :=
    (aside_installOverlay _ kind).after ((aside_openKind _ kind k).after (.of_besides rfl))
  rw [State.openAs, beginScan_eq]
  exact (aside_drawNext _).after (ho.trans (.of_besides rfl))

theorem aside_enterHold (s : State) : Aside s s.enterHold := .of_besides rfl

end Sys2Proof.Machine
end


section
/-! That every step keeps the bounds of the record unit, of the lanes' counts, of the memory path and of pacing. -/
namespace Sys2Proof.Machine

/-! ## The relation -/

/-- The counts of a lane lie within the limits of an input contract (R21). -/
def LaneRec.within (c : InputContract) (x : LaneRec) : Prop := x.missCount ≤ c.missLimit ∧ x.skewCount ≤ c.skewLimit

theorem countsLimited_iff (s : State) : s.CountsLimited ↔ ∀ l, (s.lane l).within s.relay.input :=
  ⟨fun h l => ⟨h.misses l, h.skews l⟩, fun h => ⟨fun l => (h l).1, fun l => (h l).2⟩⟩

/-- Whichever of the three bounds s keeps, t keeps. -/
structure BoundsKept (s t : State) : Prop where
  ring : s.RingBounded → t.RingBounded
  counts : s.CountsLimited → t.CountsLimited
  queues : s.QueuesBounded → t.QueuesBounded

theorem BoundsKept.refl (s : State) : BoundsKept s s := ⟨id, id, id⟩

theorem BoundsKept.trans {s t u : State} (h : BoundsKept s t) (k : BoundsKept t u) : BoundsKept s u :=
  ⟨k.ring ∘ h.ring, k.counts ∘ h.counts, k.queues ∘ h.queues⟩

/-- The same with the later operation first: its state is read off the goal. -/
theorem BoundsKept.after {s t u : State} (k : BoundsKept t u) (h : BoundsKept s t) : BoundsKept s u := h.trans k

theorem Aside.bounds {s t : State} (h : Aside s t) : BoundsKept s t where
  ring := h.ring
  counts hs := by
    rw [countsLimited_iff] at hs ⊢
    intro l
    rw [lane_of_receiverSide h.receiver, input_of_receiverSide h.receiver]
    exact hs l
  queues := h.queues

/-- The lanes' counts follow their limits, and the rest that is bounded stays. -/
theorem BoundsKept.of_counts {s t : State} (hm : t.measures = s.measures)
    (hc : (∀ l, (s.lane l).within s.relay.input) → ∀ l, (t.lane l).within t.relay.input) : BoundsKept s t :=
  ⟨ringBounded_of_measures hm, by simpa only [countsLimited_iff] using hc, queuesBounded_of_measures hm⟩

/-- All that the bounds speak of. -/
def State.bounded (s : State) := (s.measures, s.lra.lanes, s.relay.input)

theorem BoundsKept.of_bounded {s t : State} (h : t.bounded = s.bounded) : BoundsKept s t := by
  obtain ⟨hm, h⟩ := Prod.ext_iff.mp h
  obtain ⟨hl, hi⟩ := Prod.ext_iff.mp h
  refine .of_counts hm fun hs l => ?_
  rw [State.lane, show t.lra.lanes = s.lra.lanes from hl, show t.relay.input = s.relay.input from hi]
  exact hs l

theorem BoundsKept.foldl {α : Type} (f : State → α → State) (h : ∀ s x, BoundsKept s (f s x)) (xs : List α) (s : State) :
    BoundsKept s (xs.foldl f s) := by
  induction xs generalizing s with
  | nil => exact .refl s
  | cons x xs ih => exact (h s x).trans (ih (f s x))

theorem BoundsKept.eachFree {α : Type} (xs : List α) (f : State → α → State) (h : ∀ s x, BoundsKept s (f s x))
    (s : State) : BoundsKept s (s.eachFree xs f) :=
  (BoundsKept.foldl f h _ _).after (.of_bounded rfl)

/-! ## The lanes (chapter 2) -/

theorem bounds_modLane (s : State) (l : Lane) (f : LaneRec → LaneRec)
    (h : ∀ x : LaneRec, x.within s.relay.input → (f x).within s.relay.input) : BoundsKept s (s.modLane l f) :=
  .of_counts rfl fun hs m => by
    by_cases hm : m = l
    · rw [hm, lane_modLane_same]; exact h _ (hs l)
    · rw [lane_modLane_other _ _ _ _ hm]; exact hs m

theorem bounds_mapLanes (s : State) (f : LaneRec → LaneRec)
    (h : ∀ x : LaneRec, x.within s.relay.input → (f x).within s.relay.input) : BoundsKept s (s.mapLanes f) :=
  .of_counts rfl fun hs m => by rw [lane_mapLanes]; exact h _ (hs m)

theorem bounds_laneFaulted (s : State) (l : Lane) : BoundsKept s (s.laneFaulted l) :=
  (bounds_modLane s l (fun x => { x with state := .faulted }) fun _ hx => hx).trans (.of_bounded rfl)

/-- New limits bring every count under them (R7). -/
theorem bounds_installInput (s : State) : BoundsKept s s.installInput.1 := by
  have hadjust : ∀ limit n, adjustCount limit n ≤ limit := fun limit n => by
    unfold adjustCount
    split <;> omega
  unfold State.installInput
  split
  · exact .refl s
  · rename_i c _
    refine (BoundsKept.eachFree _ _ bounds_laneFaulted _).after (.of_counts rfl fun _ l => ?_)
    show (State.lane (State.mapLanes _ (LaneRec.adjust c)) l).within c
    rw [lane_mapLanes]
    exact ⟨hadjust _ _, hadjust _ _⟩

theorem bounds_reevaluate (s : State) : BoundsKept s s.reevaluate :=
  .of_bounded (congrArg State.bounded (offRelay_reevaluate s) :)

theorem bounds_cutReceived (s : State) : BoundsKept s s.cutReceived := by
  unfold State.cutReceived
  split
  · exact (aside_cutSlot s _ _).bounds.trans (.of_bounded rfl)
  · exact .of_bounded rfl

theorem bounds_enterSearch (onLane : LaneRec → LaneRec) (h : ∀ c x, LaneRec.within c x → (onLane x).within c) (s : State) :
    BoundsKept s (s.enterSearch onLane) := by
  have hb : BoundsKept s (s.searchBegun onLane) :=
    ((bounds_mapLanes _ (fun x => (onLane x).clearRuns) fun x hx => h _ x hx).after (bounds_cutReceived s)).trans
      (.of_bounded rfl)
  rw [enterSearch_eq]
  refine (bounds_reevaluate _).after ?_
  split
  · exact hb.trans (bounds_installInput _)
  · exact hb

theorem within_keepOnSearch (c : InputContract) (x : LaneRec) (h : x.within c) : x.keepOnSearch.within c := by
  unfold LaneRec.keepOnSearch
  split
  · exact ⟨Nat.zero_le _, Nat.zero_le _⟩
  · exact h

theorem bounds_loseLock (s : State) : BoundsKept s s.loseLock :=
  (bounds_enterSearch _ within_keepOnSearch s).trans (.of_bounded rfl)

theorem bounds_laneLost (s : State) (l : Lane) : BoundsKept s (s.laneLost l) := by
  unfold State.laneLost
  split
  · split
    · exact .of_bounded rfl
    · exact bounds_loseLock s
  · exact bounds_loseLock s
  · exact .refl s

theorem bounds_applyInputNow (s : State) : BoundsKept s s.applyInputNow :=
  (BoundsKept.foldl _ bounds_laneLost _ _).after (bounds_installInput s)

theorem bounds_cutAtBoundary (s : State) : BoundsKept s s.cutAtBoundary := by
  unfold State.cutAtBoundary
  split
  · exact (bounds_applyInputNow _).after (bounds_cutReceived s)
  · exact .refl s

theorem bounds_lock (onto : AlignerState) (s : State) : BoundsKept s (s.lock onto) := by
  have hthird : ∀ (u : State) l, BoundsKept u (u.lockThird l) := fun u l => by
    unfold State.lockThird
    split
    · exact .refl u
    · split
      · exact bounds_laneFaulted u l
      · exact .refl u
      · exact .refl u
  unfold State.lock
  extract_lets s1 s2
  have h1 : BoundsKept s s1 := by
    simp only [s1]
    split
    · exact BoundsKept.foldl _ hthird _ _
    · exact .refl s
  have h2 : BoundsKept s s2 := by
    refine (aside_pacingLock _).bounds.after ((bounds_mapLanes _ _ fun x hx => ?_).after h1)
    unfold LaneRec.lockOutcome
    split
    · exact ⟨Nat.zero_le _, Nat.zero_le _⟩
    · exact hx
  exact (bounds_reevaluate _).after (h2.trans (.of_bounded rfl))

theorem bounds_restartSearch (s : State) : BoundsKept s s.restartSearch :=
  (bounds_mapLanes s (fun x => { x with mark := false }) fun _ hx => hx).trans (.of_bounded rfl)

theorem bounds_searchGroup (s : State) (o : PerLane LaneOutcome) : BoundsKept s (s.searchGroup o) := by
  have hextend : BoundsKept s (s.extendRun o) :=
    .of_counts rfl fun hs l => by cases l <;> [exact hs .a; exact hs .b; exact hs .c]
  unfold State.searchGroup
  split
  · exact bounds_restartSearch s
  · split
    · exact hextend
    · refine hextend.trans ?_
      unfold State.searchRunEnd
      split
      · exact bounds_lock _ _
      · split
        · exact bounds_lock _ _
        · exact bounds_restartSearch _

/-- A raised count stays within its limit (R21). -/
theorem within_count (c : InputContract) (x : LaneRec) (o : LaneOutcome) (h : x.within c) : (x.count c o).within c := by
  have hraise : ∀ limit n, raiseCount limit n ≤ limit := fun limit n => by
    unfold raiseCount
    split <;> omega
  cases o
  · exact ⟨Nat.zero_le _, Nat.zero_le _⟩
  · exact ⟨h.1, hraise _ _⟩
  · exact ⟨hraise _ _, h.2⟩

theorem bounds_countGroup (s : State) (o : PerLane LaneOutcome) : BoundsKept s (s.countGroup o) := by
  have hlane : ∀ (u : State) l, BoundsKept u (u.countLane o l) := fun u l => by
    unfold State.countLane
    split
    · refine BoundsKept.after ?_ (bounds_modLane u l (fun x => x.count u.relay.input (o.get l)) fun x hx =>
        within_count _ x _ hx)
      unfold State.reportOutcome
      split
      · exact .refl _
      · exact .of_bounded rfl
      · exact .of_bounded rfl
    · exact .refl u
  exact (BoundsKept.foldl _ bounds_laneLost _ _).after
    ((BoundsKept.eachFree _ _ bounds_laneFaulted _).after (BoundsKept.foldl _ hlane _ _))

theorem bounds_rejoinGroup (s : State) (o : PerLane LaneOutcome) : BoundsKept s (s.rejoinGroup o) := by
  have hrun : ∀ (u : State) l (n : LaneRec → Nat), BoundsKept u (u.modLane l fun x => { x with rejoinRun := n x }) :=
    fun u l _ => bounds_modLane u l _ fun _ hx => hx
  have hrejoin : ∀ (u : State) l, BoundsKept u (u.rejoin l) := fun u l => by
    have h : BoundsKept u (u.modLane l fun x => { x with state := .active, missCount := 0, skewCount := 0, rejoinRun := 0 }) :=
      bounds_modLane u l _ fun _ _ => ⟨Nat.zero_le _, Nat.zero_le _⟩
    exact (bounds_reevaluate _).after (h.trans (.of_bounded rfl))
  unfold State.rejoinGroup
  split
  · split
    · unfold State.rejoinLane
      repeat' split
      · exact .refl s
      · exact hrejoin s _
      · exact hrun s _ fun _ => 0
      · exact hrun s _ fun x => x.rejoinRun + 1
      · exact hrun s _ fun _ => 0
    · exact .refl s
  · exact .refl s

theorem bounds_takeOutcomes (s : State) (o : PerLane LaneOutcome) : BoundsKept s (s.takeOutcomes o) := by
  unfold State.takeOutcomes
  split
  · split
    · exact .refl s
    · exact bounds_searchGroup s o
  · exact bounds_countGroup s o
  · exact (bounds_rejoinGroup _ o).after (bounds_countGroup s o)

theorem bounds_testGroup (s : State) (d : PerLane Delivery) : BoundsKept s (s.testGroup d) := by
  have hword : ∀ c (x : LaneRec) w, x.within c → (x.testWord w).within c := fun c x w hx => by
    unfold LaneRec.testWord
    split
    · exact hx
    · dsimp only
      split <;> exact hx
  unfold State.testGroup
  split
  · refine BoundsKept.foldl _ (fun u l => ?_) _ _
    unfold State.testLane
    split
    · exact bounds_modLane u l _ fun x hx => hword _ x _ hx
    · exact .refl u
  · exact .refl s

theorem bounds_goQuiet (s : State) (l : Lane) : BoundsKept s (s.goQuiet l) := by
  have hquiet : ∀ f : LaneRec → LaneState, BoundsKept s
      (s.modLane l fun x => { x with state := f x, activitySeen := false, rejoinRun := 0 }) := fun f =>
    bounds_modLane s l _ fun _ hx => hx
  have hfault : BoundsKept s ((s.modLane l fun x =>
      { x with state := .quiet, activitySeen := false, rejoinRun := 0 }).raiseLaneFault 2 l) :=
    (hquiet fun _ => .quiet).trans (.of_bounded rfl)
  unfold State.goQuiet
  split
  · exact hquiet (·.state)
  · exact (bounds_reevaluate _).after ((bounds_laneLost _ l).after hfault)
  · exact (bounds_reevaluate _).after hfault

theorem bounds_seeActivity (s : State) (l : Lane) : BoundsKept s (s.seeActivity l) := by
  unfold State.seeActivity
  split
  · exact bounds_modLane s l _ fun _ hx => hx
  · exact .refl s

/-! ## A scan open, a hold, and what follows an event -/

theorem bounds_relayout (s : State) (c : PanelContract) : BoundsKept s (s.relayout c) :=
  (aside_relayout s c).bounds.after (bounds_cutAtBoundary s)

theorem bounds_installPanel (s : State) : BoundsKept s s.installPanel := by
  unfold State.installPanel
  split
  · exact .refl s
  · dsimp only
    split
    · exact (bounds_relayout _ _).after (.of_bounded rfl)
    · exact .of_bounded rfl

theorem bounds_openScan (s : State) : BoundsKept s s.openScan := by
  rw [openScan_eq]
  exact (aside_openAs _ _ _ _).bounds.after (bounds_installPanel s)

theorem bounds_holdOrOpen (s : State) : BoundsKept s s.holdOrOpen := by
  unfold State.holdOrOpen
  split
  · exact .of_bounded rfl
  · exact bounds_openScan s

theorem bounds_completeWake (s : State) (ending : WakeEnding) : BoundsKept s (s.completeWake ending) := by
  rcases completeWake_cases s ending with ⟨_, e⟩ | ⟨_, e⟩
  · rw [e]; exact (bounds_openScan _).after (.of_bounded rfl)
  · rw [e]; exact .of_bounded rfl

theorem bounds_exitHold (s : State) (t : HoldTrigger) : BoundsKept s (s.exitHold t) := by
  by_cases h : s.sco.state = .holding
  · have hw : BoundsKept s (s.beginWake t).wakeMemory := (aside_wakeMemory _).bounds.after (.of_bounded rfl)
    rw [exitHold_of_holding s t h]
    split
    · exact hw.trans (bounds_completeWake _ _)
    · split
      · refine hw.trans ?_
        unfold State.wakeLate
        split
        · exact bounds_completeWake _ _
        · exact (bounds_completeWake _ _).after (.of_bounded rfl)
      · exact hw
  · rw [exitHold_of_not_holding s t h]
    exact .refl s

theorem bounds_settle (s before : State) : BoundsKept s (s.settle before) := by
  have hrespan : BoundsKept s (s.respan before) := by
    unfold State.respan
    split
    · exact bounds_holdOrOpen s
    · exact .refl s
  refine (aside_settleMemory _).bounds.after (hrespan.trans ?_)
  unfold State.evaluateStart
  split
  · exact bounds_openScan _
  · exact .refl _

theorem bounds_openWaiting (s : State) : BoundsKept s s.openWaiting := by
  unfold State.openWaiting
  split
  · dsimp only
    split
    · exact (bounds_holdOrOpen _).after (.of_bounded rfl)
    · exact .of_bounded rfl
  · exact .refl s

theorem bounds_takePlanned (s : State) : BoundsKept s s.takePlanned := by
  unfold State.takePlanned
  split
  · exact .of_bounded rfl
  · split
    · exact bounds_openScan s
    · exact .of_bounded rfl

/-! ## Frame assembly (sections 2.4 to 2.7) -/

theorem lra_lineCompleted (s : State) (k : Fin 5) (y : Nat) (concealed joins : Bool) :
    (s.lineCompleted k y concealed joins).lra = s.lra := by
  have hm : ∀ j (u : State), (u.checkEntry k j).lra = u.lra := fun j u => by
    unfold State.checkEntry
    split
    · rfl
    · rfl
    · exact congrArg Prod.fst (memorySide_completeIfResolved _ k)
  unfold State.lineCompleted
  extract_lets s1 j s2
  have h2 : s2.lra = s.lra := hm _ s1
  split <;> exact h2

/-- A line joins a staging queue that is not full (R38). -/
theorem bounds_stageLine (s : State) (f : RxFrame) (concealed : Bool) (pixels : List Rgb) :
    BoundsKept s (s.stageLine f concealed pixels) := by
  unfold State.stageLine
  extract_lets y joins s1
  have h1 : Aside s s1 := aside_lineCompleted s f.slot y concealed joins
  split
  · rename_i hj
    refine (aside_wakeMemory _).bounds.after ⟨fun h => ?_, fun h => ?_, fun h => ?_⟩
    · exact { h1.ring h with }
    · exact { h1.bounds.counts h with }
    · have hlen : s1.lra.staging.length < 64 := by
        rw [show s1.lra = s.lra from lra_lineCompleted s f.slot y concealed joins]
        exact of_decide_eq_true hj
      have hq := h1.queues h
      refine ⟨?_, hq.owed, hq.intervals, hq.penalty, hq.clean⟩
      dsimp only
      rw [List.length_append]
      exact hlen
  · exact ((aside_lineDiscarded s1 f.slot y).bounds.after h1.bounds).trans (.of_bounded rfl)

theorem bounds_lineEnd (s : State) (f : RxFrame) : BoundsKept s (s.lineEnd f) := by
  unfold State.lineEnd
  split
  · exact .of_bounded rfl
  · extract_lets line concealed s1 s2
    have h2 : BoundsKept s s2 := by
      simp only [s2]
      split
      · exact (bounds_stageLine s f _ _).trans (.of_bounded rfl)
      · exact bounds_stageLine s f _ _
    exact h2.trans (.of_bounded rfl)

theorem bounds_frameEnd (s : State) : BoundsKept s s.frameEnd := by
  unfold State.frameEnd
  split
  · extract_lets u l s1
    refine (bounds_applyInputNow s1).after ?_
    simp only [s1]
    split
    · exact (aside_frameEnded s _).bounds.trans (.of_bounded rfl)
    · exact bounds_cutReceived s
  · exact .of_bounded rfl

theorem bounds_acceptFrame (s : State) (w : LaneWord) (width height : Nat) :
    BoundsKept s (s.acceptFrame w width height) := by
  have hmode : BoundsKept s s.modeTaken := by
    unfold State.modeTaken
    extract_lets r s1 q p s2
    have hr : BoundsKept s { s with relay.refused := false } := .of_bounded rfl
    have h1 : BoundsKept s s1 := hr.trans (bounds_reevaluate _)
    have h2 : BoundsKept s s2 := h1.trans (.of_bounded rfl)
    exact h2.trans (.of_bounded (congrArg State.bounded (offRelay_takeMode _ _) :))
  rw [acceptFrame_eq]
  exact (hmode.trans (aside_takeArrival _ width height).bounds).trans (.of_bounded rfl)

theorem bounds_openFrame {s t : State} {w : LaneWord} {width height : Nat} (h : s.openFrame w width height = some t) :
    BoundsKept s t := by
  obtain ⟨k, u, hu, rfl⟩ := openFrame_cases h
  have hslot : BoundsKept s u := (aside_takeSlot hu).bounds.after
    ((aside_countDownPins _).bounds.after (bounds_acceptFrame s w width height))
  exact (bounds_exitHold _ .fs).after (hslot.trans (.of_bounded rfl))

theorem bounds_refuseFrame (s : State) (reason : Nat) : BoundsKept s (s.refuseFrame reason) := by
  have hr : BoundsKept s { s.raise .formatRefused (causeDetail reason 0) with relay.refused := true } := .of_bounded rfl
  exact (hr.trans (bounds_reevaluate _)).trans (.of_bounded rfl)

theorem bounds_frameStart {s t : State} {w : LaneWord} (h : s.frameStart w = some t) : BoundsKept s t := by
  have h1 : BoundsKept s s.cutAtBoundary.clearRejoin :=
    (bounds_mapLanes _ (fun x => { x with rejoinRun := 0 }) fun _ hx => hx).after (bounds_cutAtBoundary s)
  unfold State.frameStart at h
  dsimp only at h
  split at h
  · obtain rfl := Option.some.inj h
    exact h1
  · split at h
    · obtain rfl := Option.some.inj h
      exact h1.trans (.of_bounded rfl)
    · split at h
      · obtain rfl := Option.some.inj h
        exact h1.trans (bounds_refuseFrame _ _)
      · exact h1.trans (bounds_openFrame h)

theorem bounds_takeMark {s t : State} {w : LaneWord} (h : s.takeMark w = some t) : BoundsKept s t := by
  unfold State.takeMark at h
  split at h
  · exact bounds_frameStart h
  · split at h
    · obtain rfl := Option.some.inj h
      exact bounds_lineEnd s _
    · obtain rfl := Option.some.inj h
      exact .refl _
  · obtain rfl := Option.some.inj h
    exact bounds_frameEnd s
  · obtain rfl := Option.some.inj h
    exact .of_bounded rfl

theorem bounds_useWords {s t : State} {aligner : AlignerState} {v : PerLane (Option LaneWord)}
    (h : s.useWords aligner v = some t) : BoundsKept s t := by
  have hlone : ∀ ws, BoundsKept s (s.loneControl ws) := fun ws => by
    unfold State.loneControl
    split
    · exact .of_bounded rfl
    · exact .refl s
  unfold State.useWords at h
  dsimp only at h
  split at h
  · obtain rfl := Option.some.inj h
    refine (hlone (wordList v)).trans ?_
    generalize s.loneControl (wordList v) = u
    unfold State.pixelGroup
    dsimp only
    repeat' split
    all_goals exact .of_bounded rfl
  · unfold State.controlGroup at h
    split at h
    · obtain rfl := Option.some.inj h
      exact .of_bounded rfl
    · split at h
      · obtain rfl := Option.some.inj h
        unfold State.takeDescriptor
        split <;> exact .of_bounded rfl
      · exact bounds_takeMark h
  all_goals
    obtain rfl := Option.some.inj h
    exact hlone _

theorem bounds_closeGroup {s t : State} {d : PerLane Delivery} (h : s.closeGroup d = some t) : BoundsKept s t := by
  have h1 : BoundsKept s ((s.testGroup d).takeOutcomes (outcomes d)) :=
    (bounds_takeOutcomes _ _).after (bounds_testGroup s d)
  unfold State.closeGroup at h
  dsimp only at h
  split at h
  · obtain rfl := Option.some.inj h
    exact h1
  · exact h1.trans (bounds_useWords h)

/-! ## Requests and writes -/

theorem bounds_triggerExit (s : State) (t : HoldTrigger) : BoundsKept s (s.triggerExit t) := by
  unfold State.triggerExit
  split
  · exact (bounds_exitHold s t).trans (bounds_settle _ _)
  · exact .refl s

theorem bounds_requestInput (s : State) : BoundsKept s s.requestInput.1 := by
  unfold State.requestInput
  split
  · exact .refl s
  · split
    · exact .refl s
    · have hw : BoundsKept s { s with relay.waitingInput := some s.peu.pendingInput } := .of_bounded rfl
      dsimp only
      split
      · exact (bounds_settle _ _).after ((bounds_applyInputNow _).after hw)
      · exact hw

/-- The first contract takes effect and a scan opens (R11). -/
theorem bounds_leaveIdle (s : State) : BoundsKept s s.leaveIdle := by
  have h1 : BoundsKept s s.installPanel.reevaluate := (bounds_reevaluate _).after (bounds_installPanel s)
  have h2 : BoundsKept s { s.installPanel.reevaluate with sco.state := .ready } := h1.trans (.of_bounded rfl)
  exact h2.trans (bounds_openScan _)

theorem bounds_requestPanel (s : State) : BoundsKept s s.requestPanel.1 := by
  have hw : BoundsKept s { s with relay.waitingPanel := some s.peu.pendingPanel } := .of_bounded rfl
  unfold State.requestPanel
  split
  · exact .refl s
  · split
    · exact .refl s
    · dsimp only
      split
      · exact (bounds_settle _ s).after ((bounds_leaveIdle _).after hw)
      · exact (bounds_triggerExit _ _).after hw

theorem bounds_requestCommit (s : State) : BoundsKept s s.requestCommit.1 := by
  unfold State.requestCommit
  exact (bounds_triggerExit _ .commit).after (.of_bounded rfl)

theorem bounds_requestPin (s : State) (p : Port) : BoundsKept s (s.requestPin p).1 := by
  unfold State.requestPin
  split
  · exact .refl s
  · split
    · exact .refl s
    · split
      · exact .refl s
      · exact .of_bounded rfl

theorem bounds_requestRelease (s : State) (p : Port) : BoundsKept s (s.requestRelease p).1 := by
  unfold State.requestRelease
  split
  · exact (aside_dropPin s p).bounds
  · exact .refl s

theorem within_activate (c : InputContract) (x : LaneRec) (_ : x.within c) : x.activate.within c :=
  ⟨Nat.zero_le _, Nat.zero_le _⟩

theorem bounds_requestRealign (s : State) : BoundsKept s s.requestRealign.1 := by
  dsimp only [State.requestRealign]
  exact (bounds_enterSearch _ within_activate s).trans (bounds_settle _ s)

theorem bounds_requestTestOn (s : State) : BoundsKept s s.requestTestOn.1 := by
  have h1 : BoundsKept s ((s.enterSearch LaneRec.activate).mapLanes LaneRec.startTest) :=
    (bounds_mapLanes _ LaneRec.startTest fun _ hx => hx).after (bounds_enterSearch _ within_activate s)
  have h2 : BoundsKept s { (s.enterSearch LaneRec.activate).mapLanes LaneRec.startTest with lra.testOn := true } :=
    h1.trans (.of_bounded rfl)
  dsimp only [State.requestTestOn]
  exact (h2.trans (bounds_reevaluate _)).trans (bounds_settle _ s)

theorem bounds_requestTestOff (s : State) : BoundsKept s s.requestTestOff.1 := by
  unfold State.requestTestOff
  dsimp only
  split
  · exact (bounds_reevaluate _).after ((bounds_restartSearch s).trans (.of_bounded rfl))
  · exact .refl s

theorem bounds_abortScanOut (s : State) : BoundsKept s s.abortScanOut := by
  unfold State.abortScanOut
  split
  · exact .refl s
  · exact .refl s
  · split
    · exact (aside_endScan _ _ _).bounds.after (.of_bounded rfl)
    · exact .refl s
  · exact (aside_wakeMemory _).bounds.after (.of_bounded rfl)
  · exact .of_bounded rfl

theorem bounds_resetParts (s : State) : BoundsKept s s.resetParts := by
  have hstore : BoundsKept s s.abortScanOut.resetStore :=
    (aside_dropCaptures _).bounds.after ((bounds_abortScanOut s).trans (.of_bounded rfl))
  have hlra : ∀ u : State, BoundsKept u u.resetLra := fun u =>
    ((aside_emptyStaging _).bounds.after (bounds_mapLanes u _ fun _ _ => ⟨Nat.zero_le _, Nat.zero_le _⟩)).trans
      (.of_bounded rfl)
  have hpacing : ∀ u : State, BoundsKept u u.resetPacing := fun u =>
    (aside_pacing u _ fun _ => ⟨by simp, by simp, by simp⟩).bounds
  have hrecords : ∀ u : State, BoundsKept u u.resetRecords := fun u =>
    ⟨fun h => ⟨h.ring, h.unread, h.lost, Nat.zero_le _⟩, fun h => { h with }, fun h => { h with }⟩
  have hrelay : ∀ u : State, BoundsKept u u.resetRelay := fun u => (bounds_reevaluate _).after (.of_bounded rfl)
  exact (hrelay _).after ((hrecords _).after ((hpacing _).after ((hlra _).after hstore)))

theorem bounds_deadlineAtReady (s before : State) : BoundsKept s (s.deadlineAtReady before) := by
  unfold State.deadlineAtReady
  split
  · exact bounds_holdOrOpen s
  · exact .refl s

theorem bounds_requestReset (s : State) : BoundsKept s s.requestReset.1 := by
  have h : BoundsKept s (s.resetParts.deadlineAtReady s) := (bounds_deadlineAtReady _ s).after (bounds_resetParts s)
  dsimp only [State.requestReset]
  exact h.trans (bounds_settle _ s)

/-- NEXT_RECORD takes one record from a reader's count, and clears what it lost (R154). -/
theorem bounds_requestRecord (s : State) (p : Port) : BoundsKept s (s.requestRecord p).1 := by
  have hnext : ∀ (x : Reader) ring, (x.next ring).unread ≤ x.unread ∧ (x.next ring).lost ≤ x.lost := fun x ring => by
    unfold Reader.next
    split
    · exact ⟨Nat.le_refl _, Nat.le_refl _⟩
    · exact ⟨Nat.sub_le _ _, Nat.zero_le _⟩
  have hget : ∀ q, ((s.requestRecord p).1.records.readers.get q).unread ≤ (s.records.readers.get q).unread ∧
      ((s.requestRecord p).1.records.readers.get q).lost ≤ (s.records.readers.get q).lost := fun q => by
    simp only [State.requestRecord]
    by_cases hq : q = p
    · rw [hq, PerPort.get_set_same]; exact hnext _ _
    · rw [PerPort.get_set_other _ _ _ _ hq]; exact ⟨Nat.le_refl _, Nat.le_refl _⟩
  exact ⟨fun h => ⟨h.ring, fun q => (hget q).1.trans (h.unread q), fun q => (hget q).2.trans (h.lost q), h.tally⟩,
    fun h => { h with }, fun h => { h with }⟩

theorem bounds_writeRegion (s : State) (p : Port) (r : Region) (off : Nat) (ps : List (Byte × Byte)) :
    BoundsKept s (s.writeRegion p r off ps) := by
  cases r <;> exact .of_bounded rfl

theorem bounds_tminReached (s : State) : BoundsKept s (State.openWaiting { s with pacing.tminReached := true }) :=
  (bounds_openWaiting _).after (.of_bounded rfl)

theorem bounds_plannedTaken (s : State) :
    BoundsKept s (State.takePlanned { s with pacing.planned := s.pacing.planned.drop 1 }) :=
  (bounds_takePlanned _).after (.of_bounded rfl)

theorem bounds_writeModeWord (s : State) (p : Port) (ps : List (Byte × Byte)) : BoundsKept s (s.writeModeWord p ps).1 := by
  unfold State.writeModeWord State.setModeWord
  dsimp only
  split
  · exact (bounds_settle _ _).after ((bounds_loseLock _).after (.of_bounded rfl))
  · exact .of_bounded rfl

theorem bounds_arrive (s : State) (e : Env) : BoundsKept s (s.arrive e) :=
  .of_bounded (by simp [State.bounded, State.measures])

/-- Power-on reset leaves everything within its bounds. -/
theorem bounds_powerOn (straps : Fin 4) (s : State) : BoundsKept s
    { State.powerOn straps with pending := s.pending, choices := s.choices, panelReady := s.panelReady } where
  ring _ := { powerOn_ringBounded straps with }
  counts _ := { powerOn_countsLimited straps with }
  queues _ := { powerOn_queuesBounded straps with }

/-! ## Every step -/

/-- Each operation of each command keeps the bounds that a state s keeps. -/
theorem bounds_invariant (s : State) : Invariant (BoundsKept s) where
  tick _ h := h.trans (.of_bounded rfl)
  pop _ _ h := h.trans (.of_bounded rfl)
  arrive _ e h := h.trans (bounds_arrive _ e)
  powerOn straps _ h := h.trans (bounds_powerOn straps _)
  setPort _ _ _ h := h.trans (.of_bounded rfl)
  raise _ _ _ h := h.trans (.of_bounded rfl)
  settle _ _ h := h.trans (bounds_settle _ _)
  settleMemory _ h := h.trans (aside_settleMemory _).bounds
  closeGroup _ _ _ h ht := h.trans (bounds_closeGroup ht)
  goQuiet _ l h := h.trans (bounds_goQuiet _ l)
  seeActivity _ l h := h.trans (bounds_seeActivity _ l)
  finishStagingWrite _ l a q h := h.trans (aside_finishStagingWrite _ l a q).bounds
  finishScanRead _ _ _ _ h := h.trans (.of_bounded rfl)
  finishCaptureRead _ p r a w h := h.trans (aside_finishCaptureRead _ p r a w).bounds
  finishRefresh _ h := h.trans (aside_finishRefresh _).bounds
  oweRefresh _ h := h.trans (aside_owed _ _ fun _ => Nat.min_le_right _ _).bounds
  endCapture _ p st data h := h.trans (aside_endCapture _ p st data).bounds
  withdrawCapture _ _ h := h.trans (.of_bounded rfl)
  setCapture _ _ h := h.trans (.of_bounded rfl)
  wakeMemory _ h := h.trans (aside_wakeMemory _).bounds
  memoryAwake _ h := h.trans (aside_memoryAwake _).bounds
  leadReached _ _ h := h.trans (.of_bounded rfl)
  tminReached u h _ := h.trans (bounds_tminReached u)
  holdOrOpen _ h _ _ := h.trans (bounds_holdOrOpen _)
  takePlanned u h _ := h.trans (bounds_plannedTaken u)
  endGrace _ h := h.trans (.of_bounded rfl)
  drawNext _ h := h.trans (aside_drawNext _).bounds
  closeScan _ c h _ := h.trans (aside_closeScan _ c).bounds
  panelReady _ h := h.trans (.of_bounded rfl)
  completeWake _ ending h _ := h.trans (bounds_completeWake _ ending)
  writeModeWord _ p ps h := h.trans (bounds_writeModeWord _ p ps)
  writeRegion u p r off ps h := h.trans (bounds_writeRegion u p r off ps)
  requestInput _ h := h.trans (bounds_requestInput _)
  requestPanel _ h := h.trans (bounds_requestPanel _)
  requestCommit u h := h.trans (bounds_requestCommit u)
  requestPin u p h := h.trans (bounds_requestPin u p)
  requestRelease u p h := h.trans (bounds_requestRelease u p)
  requestRealign u h := h.trans (bounds_requestRealign u)
  requestReset _ h := h.trans (bounds_requestReset _)
  requestRecord _ p h := h.trans (bounds_requestRecord _ p)
  requestTestOn _ h := h.trans (bounds_requestTestOn _)
  requestTestOff _ h := h.trans (bounds_requestTestOff _)

/-- Settles O60: what every step keeps for s is that each bound of s is kept. -/
theorem boundsAreKept : Obligations.BoundsAreKept := fun s t h => by
  have hkept := (bounds_invariant s).step s t (.refl s) h
  exact ⟨hkept.ring, hkept.counts, hkept.queues⟩

end Sys2Proof.Machine
end


section
/-! What follows an event leaves the receiver's side and the relay state, but for a frame being received that a panel
apply's relayout cuts. -/
namespace Sys2Proof.Machine

/-! ## The relay state's re-evaluation -/

theorem receiverSide_relayChanged (s : State) (old new : RelayState) :
    (s.relayChanged old new).receiverSide = s.receiverSide := by
  have hg : ∀ u : State, u.beginGrace.receiverSide = u.receiverSide := fun u => by
    unfold State.beginGrace
    dsimp only
    repeat' split
    all_goals rfl
  unfold State.relayChanged
  extract_lets p s1 s2 s3 r
  have h1 : s1.receiverSide = s.receiverSide := by simp only [s1]; split <;> rfl
  have h2 : s2.receiverSide = s.receiverSide := by
    simp only [s2]
    split
    · exact (hg s1).trans h1
    · exact h1
  have h3 : s3.receiverSide = s.receiverSide := by simp only [s3]; split <;> exact h2
  split <;> exact h3

theorem receiverSide_reevaluate (s : State) : s.reevaluate.receiverSide = s.receiverSide := by
  unfold State.reevaluate
  dsimp only
  split
  · rfl
  · exact (aside_raise _ .relayStateChanged 0 (by decide)).receiver.trans (receiverSide_relayChanged _ _ _)

/-! ## The panel apply -/

/-- From s to t nothing happens to the receiver, or a frame being received is cut and the rest leaves it aside. -/
inductive Follows (s t : State) : Prop
  | aside (h : Aside s t)
  | cut (u : State) (hw : s.relay.waitingPanel ≠ none) (hr : s.receiving ≠ none) (before : Aside s u)
      (after : Aside u.cutAtBoundary t)

theorem Follows.trans {s t u : State} (h : Follows s t) (k : Aside t u) : Follows s u := by
  cases h with
  | aside h => exact .aside (h.trans k)
  | cut v hw hr before after => exact .cut v hw hr before (after.trans k)

theorem follows_installPanel (s : State) : Follows s s.installPanel := by
  unfold State.installPanel
  split
  · exact .aside (.refl s)
  · rename_i c hw
    dsimp only
    have h1 : Aside s ({ s with relay.panel := some c, relay.waitingPanel := none }.raise .contractApplied
        (causeDetail 2 0)) := (aside_raise _ _ _ (by decide)).after (.of_besides rfl)
    generalize State.raise _ _ _ = u at h1
    split
    · by_cases hr : s.receiving = none
      · have hcut := aside_relayout u c
        rw [cutAtBoundary_of_none u ((receiving_of_receiverSide h1.receiver).trans hr)] at hcut
        exact .aside (h1.trans hcut)
      · exact .cut u (by rw [hw]; exact nofun) hr h1 (aside_relayout u c)
    · exact .aside h1

theorem follows_openScan (s : State) : Follows s s.openScan := by
  rw [openScan_eq]
  exact (follows_installPanel s).trans (aside_openAs _ _ _ _)

/-! ## What follows an event -/

/-- At the end of an event at most one thing happens before the memory port settles: a hold is entered, or a scan
opens. -/
theorem settle_cases (s before : State) : s.settle before = s.settleMemory ∨
    s.settle before = s.enterHold.settleMemory ∨ s.settle before = s.openScan.settleMemory := by
  have hstill : ∀ u : State, u.sco.state ≠ .ready → u.evaluateStart = u := fun u h => if_neg fun hc => h hc.2.1
  unfold State.settle State.respan
  split
  · unfold State.holdOrOpen
    split
    · rw [hstill s.enterHold (by show ScanOutState.holding ≠ .ready; decide)]
      exact .inr (.inl rfl)
    · rw [hstill _ (by rw [(openScan_opens s).state]; exact nofun)]
      exact .inr (.inr rfl)
  · unfold State.evaluateStart
    split
    · exact .inr (.inr rfl)
    · exact .inl rfl

theorem follows_settle (s before : State) : Follows s (s.settle before) := by
  rcases settle_cases s before with e | e | e <;> rw [e]
  · exact .aside (aside_settleMemory s)
  · exact .aside ((aside_settleMemory _).after (aside_enterHold s))
  · exact (follows_openScan s).trans (aside_settleMemory _)

/-- With no panel apply waiting, or no frame being received, what follows an event leaves the receiver aside. -/
theorem aside_settle (s before : State) (h : s.relay.waitingPanel = none ∨ s.receiving = none) :
    Aside s (s.settle before) := by
  cases follows_settle s before with
  | aside h => exact h
  | cut u hw hr _ _ => exact (h.elim hw hr).elim

/-! ## What the cut keeps -/

theorem applyInputNow_of_none (s : State) (h : s.relay.waitingInput = none) : s.applyInputNow = s := by
  simp only [State.applyInputNow, State.installInput, h, List.foldl_nil]

theorem waitingInput_of_receiverSide {s t : State} (h : t.receiverSide = s.receiverSide) :
    t.relay.waitingInput = s.relay.waitingInput := (congrArg ReceiverSide.waitingInput h :)

/-- The lanes, the aligner, the lane test and the search run. -/
def State.alignment (s : State) : PerLane LaneRec × AlignerState × Bool × Nat :=
  (s.lra.lanes, s.lra.aligner, s.lra.testOn, s.lra.searchRun)

theorem alignment_of_receiverSide {s t : State} (h : t.receiverSide = s.receiverSide) : t.alignment = s.alignment :=
  (congrArg (fun x : ReceiverSide => (x.lra.lanes, x.lra.aligner, x.lra.testOn, x.lra.searchRun)) h :)

theorem lane_of_alignment {s t : State} (h : t.alignment = s.alignment) (l : Lane) : t.lane l = s.lane l :=
  (congrArg (fun x : PerLane LaneRec × _ => x.1.get l) h :)

theorem aligner_of_alignment {s t : State} (h : t.alignment = s.alignment) : t.lra.aligner = s.lra.aligner :=
  (congrArg (fun x : PerLane LaneRec × AlignerState × _ => x.2.1) h :)

/-- A cut takes the frame assembly to GAP and leaves the rest of the receiver's side. -/
theorem receiverSide_cutReceived (s : State) : s.cutReceived.receiverSide = { s.receiverSide with
    lra := { s.lra with staging := [], assembly := .gap, frame := none, lineBuffer := [] } } := by
  unfold State.cutReceived
  split
  · rename_i f _
    exact (congrArg (fun x : ReceiverSide => { x with
      lra := { x.lra with assembly := .gap, frame := none, lineBuffer := [] } })
      (aside_cutSlot s f.slot s.lra.linesDone).receiver :)
  · rfl

theorem alignment_cutReceived (s : State) : s.cutReceived.alignment = s.alignment :=
  (congrArg (fun x : ReceiverSide => (x.lra.lanes, x.lra.aligner, x.lra.testOn, x.lra.searchRun))
    (receiverSide_cutReceived s) :)

theorem waitingInput_cutReceived (s : State) : s.cutReceived.relay.waitingInput = s.relay.waitingInput :=
  (congrArg ReceiverSide.waitingInput (receiverSide_cutReceived s) :)

theorem alignment_cutAtBoundary (s : State) (h : s.relay.waitingInput = none) : s.cutAtBoundary.alignment = s.alignment := by
  unfold State.cutAtBoundary
  split
  · rw [applyInputNow_of_none _ ((waitingInput_cutReceived s).trans h), alignment_cutReceived]
  · rfl

/-- With no input apply waiting, what follows an event leaves the lanes and the aligner. -/
theorem alignment_settle (s before : State) (h : s.relay.waitingInput = none) :
    (s.settle before).alignment = s.alignment := by
  cases follows_settle s before with
  | aside h => exact alignment_of_receiverSide h.receiver
  | cut u _ _ hbefore hafter =>
    rw [alignment_of_receiverSide hafter.receiver,
      alignment_cutAtBoundary u ((waitingInput_of_receiverSide hbefore.receiver).trans h),
      alignment_of_receiverSide hbefore.receiver]

end Sys2Proof.Machine
end


section
/-! A group period in SEARCH: the search run, its end, the lane test (R22, R23, R41). -/
namespace Sys2Proof.Machine

/-! ## The group period -/

/-- A group period in SEARCH with no frame being received ends with the receiver as the outcomes left it. -/
theorem groupPeriod_search (e : Env) (d : PerLane Delivery) (s u : State)
    (hu : ((s.arrive e).testGroup d).takeOutcomes (outcomes d) = u) (hs : s.lra.aligner = .search)
    (hr : u.receiving = none) : ∃ t, exec (.groupPeriod e d) s = .next t ∧ Aside u t := by
  have hclose : (s.arrive e).closeGroup d = some u := by
    rw [State.closeGroup]
    rw [hu, if_pos (.inl ((congrArg Lra.aligner (arrive_lra s e)).trans hs))]
  exact ⟨_, exec_groupPeriod e d s u hclose, aside_settle u _ (.inr hr)⟩

theorem receiving_of_assembly {s : State} (h : s.lra.assembly ≠ .receiving) : s.receiving = none := if_neg h

/-! ## The run (R22) -/

theorem lane_extendRun (s : State) (o : PerLane LaneOutcome) (l : Lane) : (s.extendRun o).lane l =
    (s.lane l).markGroup (decide (s.lra.searchRun = 0)) (o.get l) := by
  cases l <;> rfl

theorem lane_restartSearch (s : State) (l : Lane) : s.restartSearch.lane l = { s.lane l with mark := false } := by
  cases l <;> rfl

/-- The test off, a group period of SEARCH goes to the search run. -/
theorem groupPeriod_searchGroup (e : Env) (d : PerLane Delivery) (s u : State) (hs : s.lra.aligner = .search)
    (ht : s.lra.testOn = false) (hu : (s.arrive e).searchGroup (outcomes d) = u) (hr : u.lra.assembly ≠ .receiving) :
    ∃ t, exec (.groupPeriod e d) s = .next t ∧ Aside u t := by
  refine groupPeriod_search e d s u ?_ hs (receiving_of_assembly hr)
  have htest : (s.arrive e).testGroup d = s.arrive e := if_neg (by rw [arrive_lra, ht]; decide)
  rw [htest, State.takeOutcomes, arrive_lra, hs]
  dsimp only
  rw [ht]
  exact hu

section
variable {s : State} {o : PerLane LaneOutcome}

theorem searchGroup_of_few (h : s.lanesInWindow o < 2) : s.searchGroup o = s.restartSearch := if_pos h

theorem searchGroup_of_run (h : 2 ≤ s.lanesInWindow o) (hrun : s.lra.searchRun < 7) : s.searchGroup o = s.extendRun o := by
  rw [State.searchGroup, if_neg (by omega), if_pos (by omega)]

theorem searchGroup_of_end (h : 2 ≤ s.lanesInWindow o) (hrun : s.lra.searchRun = 7) :
    s.searchGroup o = (s.extendRun o).searchRunEnd := by
  rw [State.searchGroup, if_neg (by omega), if_neg (by omega)]

/-- From the second group of a run on, a lane's mark is set when it was and the lane is in window. -/
theorem mark_extendRun (hrun : s.lra.searchRun = 7) (l : Lane) : ((s.extendRun o).lane l).mark =
    ((s.lane l).mark && (s.lane l).searchOutcome (o.get l)) := by
  rw [lane_extendRun, hrun]
  exact Bool.and_comm _ _

theorem markCount_extendRun (hrun : s.lra.searchRun = 7) : (s.extendRun o).markCount = s.lanesThroughout o := by
  simp only [State.markCount, State.lanesThroughout, mark_extendRun hrun]

end

/-- Settles O5: the branches of a search group before the end of its run. -/
theorem searchRunFollowsTheGroups : Obligations.SearchRunFollowsTheGroups := by
  have hwindow : ∀ e d (s : State), (s.arrive e).lanesInWindow (outcomes d) = s.lanesInWindow (outcomes d) :=
    fun e d s => by simp only [State.lanesInWindow, arrive_lane]
  refine ⟨fun e d s hs ht hr hrun hn => ?_, fun e d s hs ht hr hn => ?_⟩
  · have hu := searchGroup_of_run (s := s.arrive e) (o := outcomes d) (by rw [hwindow]; exact hn)
      (by rw [arrive_lra]; exact hrun)
    obtain ⟨t, hexec, haside⟩ := groupPeriod_searchGroup e d s _ hs ht hu (by
      show (s.arrive e).lra.assembly ≠ _
      rw [arrive_lra]; exact hr)
    have h := alignment_of_receiverSide haside.receiver
    refine ⟨t, hexec, (aligner_of_alignment h).trans ?_, (congrArg (fun x : _ × _ × _ × Nat => x.2.2.2) h :).trans ?_,
      fun l => ?_⟩
    · exact (congrArg Lra.aligner (arrive_lra s e)).trans hs
    · exact congrArg (fun x : Lra => x.searchRun + 1) (arrive_lra s e)
    · rw [lane_of_alignment h, lane_extendRun, arrive_lane, arrive_lra]
      exact ⟨rfl, rfl, rfl, rfl⟩
  · have hu := searchGroup_of_few (s := s.arrive e) (o := outcomes d) (by rw [hwindow]; exact hn)
    obtain ⟨t, hexec, haside⟩ := groupPeriod_searchGroup e d s _ hs ht hu (by
      show (s.arrive e).lra.assembly ≠ _
      rw [arrive_lra]; exact hr)
    have h := alignment_of_receiverSide haside.receiver
    refine ⟨t, hexec, (aligner_of_alignment h).trans ?_, (congrArg (fun x : _ × _ × _ × Nat => x.2.2.2) h :), fun l => ?_⟩
    · exact (congrArg Lra.aligner (arrive_lra s e)).trans hs
    · rw [lane_of_alignment h, lane_restartSearch, arrive_lane]
      exact ⟨rfl, rfl⟩

/-! ## The end of the run (R23) -/

/-- The lanes as a lock finds them: on two, the third has become FAULTED unless it is QUIET. -/
def State.lockBegun (onto : AlignerState) (s : State) : State :=
  if onto = .degraded then allLanes.foldl State.lockThird s else s

/-- What a lock leaves of the receiver's side. -/
theorem receiverSide_lock (onto : AlignerState) (s : State) : (s.lock onto).receiverSide =
    { (s.lockBegun onto).receiverSide with
      lra := { (s.lockBegun onto).lra with
        staging := [], lanes := (s.lockBegun onto).lra.lanes.map fun x => x.lockOutcome.clearRuns
        aligner := onto, searchRun := 0, assembly := .gap, frame := none, lineBuffer := [] } } := by
  unfold State.lock
  rw [receiverSide_reevaluate]
  rfl

/-- What a lock leaves of the aligner and its lanes. -/
structure LocksOnto (onto : AlignerState) (s t : State) : Prop where
  aligner : t.lra.aligner = onto
  searchRun : t.lra.searchRun = 0
  assembly : t.lra.assembly = .gap
  lane : ∀ l, t.lane l = ((s.lockBegun onto).lane l).lockOutcome.clearRuns
  faults : t.records.stats.faults = (s.lockBegun onto).records.stats.faults
  laneFault : ∀ p, (t.port p).flags .laneFault = ((s.lockBegun onto).port p).flags .laneFault

theorem locksOnto_of_aside {onto : AlignerState} {s t : State} (h : Aside (s.lock onto) t) : LocksOnto onto s t := by
  have hr := h.receiver.trans (receiverSide_lock onto s)
  have hcauses : ∀ p, (t.port p).receiver = ((s.lockBegun onto).port p).receiver := fun p => by
    rw [← causes_receiverSide, ← causes_receiverSide, hr]
  exact
    { aligner := (congrArg (fun x : ReceiverSide => x.lra.aligner) hr :)
      searchRun := (congrArg (fun x : ReceiverSide => x.lra.searchRun) hr :)
      assembly := (congrArg (fun x : ReceiverSide => x.lra.assembly) hr :)
      lane := fun l => (congrArg (fun x : ReceiverSide => x.lra.lanes.get l) hr :).trans (PerLane.get_map _ _ l)
      faults := (congrArg (fun x : ReceiverSide => x.stats.2.2) hr :)
      laneFault := fun p => congrArg (fun x : _ × CauseFlags × _ => x.2.1) (hcauses p) }

/-- The eighth group of a run that locks. -/
theorem groupPeriod_lock (e : Env) (d : PerLane Delivery) (s : State) (onto : AlignerState) (hs : s.lra.aligner = .search)
    (ht : s.lra.testOn = false) (hrun : s.lra.searchRun = 7) (hn : 2 ≤ s.lanesThroughout (outcomes d))
    (hend : ((s.arrive e).extendRun (outcomes d)).searchRunEnd = ((s.arrive e).extendRun (outcomes d)).lock onto) :
    ∃ t, exec (.groupPeriod e d) s = .next t ∧ LocksOnto onto ((s.arrive e).extendRun (outcomes d)) t := by
  have hwindow : s.lanesThroughout (outcomes d) ≤ (s.arrive e).lanesInWindow (outcomes d) := by
    simp only [State.lanesThroughout, State.lanesInWindow, arrive_lane]
    exact (List.monotone_filter_right _ fun l h => by simp_all).length_le
  have hu := searchGroup_of_end (s := s.arrive e) (hn.trans hwindow) (by rw [arrive_lra]; exact hrun)
  obtain ⟨t, hexec, haside⟩ := groupPeriod_searchGroup e d s _ hs ht (hu.trans hend)
    (by rw [(locksOnto_of_aside (.refl _)).assembly]; decide)
  exact ⟨t, hexec, locksOnto_of_aside haside⟩

/-- A marked lane is none that a lock faults. -/
theorem lockThird_of_mark {s : State} {l : Lane} (h : (s.lane l).mark = true) : s.lockThird l = s := if_pos h

theorem lockThird_of_unmarked {s : State} {l : Lane} (h : (s.lane l).mark = false) :
    s.lockThird l = if (s.lane l).state = .active then s.laneFaulted l else s := by
  rw [State.lockThird, if_neg (by rw [h]; decide)]
  cases (s.lane l).state <;> rfl

theorem mark_lockThird (s : State) (l m : Lane) : ((s.lockThird l).lane m).mark = (s.lane m).mark := by
  unfold State.lockThird
  split
  · rfl
  · split
    · rw [lane_laneFaulted]; split <;> rfl
    · rfl
    · rfl

/-- With every lane but l marked, a lock on two lanes faults l alone, if any. -/
theorem lockBegun_of_one_unmarked (s : State) (l : Lane) (h : ∀ m, m ≠ l → (s.lane m).mark = true) :
    s.lockBegun .degraded = s.lockThird l := by
  have hmark : ∀ m, m ≠ l → (s.lockThird l).lockThird m = s.lockThird l := fun m hm =>
    lockThird_of_mark ((mark_lockThird s l m).trans (h m hm))
  show ((s.lockThird .a).lockThird .b).lockThird .c = _
  cases l
  · rw [hmark .b (by decide), hmark .c (by decide)]
  · rw [lockThird_of_mark (h .a (by decide)), hmark .c (by decide)]
  · rw [lockThird_of_mark (h .a (by decide)), lockThird_of_mark (h .b (by decide))]

theorem enter_raises (f : CauseFlags) (d : BitVec 16) :
    (f.enter d).pending = true ∧ (f.pending = false → (f.enter d).detail = d) := by
  refine ⟨pending_enter f d, fun h => ?_⟩
  rw [CauseFlags.enter, h]
  rfl

/-- What a fault leaves: the count raised, LANE_FAULT with reason FAULTED. -/
theorem laneFaulted_reports (s : State) (l : Lane) :
    (s.laneFaulted l).records.stats.faults.get l = min (s.records.stats.faults.get l + 1) 4294967295 ∧
      ∀ p, (((s.laneFaulted l).port p).flags .laneFault).pending = true ∧
        (((s.port p).flags .laneFault).pending = false →
          (((s.laneFaulted l).port p).flags .laneFault).detail = causeDetail 1 (laneCode l)) := by
  refine ⟨PerLane.get_set_same _ _ _, fun p => ?_⟩
  rw [State.laneFaulted, State.raiseLaneFault, port_raise, flags_enter_same]
  exact enter_raises _ _

/-- Settles O6: the three ends of a search run by the number of lanes marked throughout. -/
theorem eighthGroupLocks : Obligations.EighthGroupLocks := by
  refine ⟨fun e d s hs ht hr hrun hall => ?_, fun e d l s hs ht hr hrun hconceal hothers hl => ?_,
    fun e d s hs ht hr hrun hn hfew => ?_⟩
  · have hmark : ∀ l, (((s.arrive e).extendRun (outcomes d)).lane l).mark = true := fun l => by
      rw [mark_extendRun (by rw [arrive_lra]; exact hrun), arrive_lane, (hall l).1, (hall l).2]; rfl
    have hcount : ((s.arrive e).extendRun (outcomes d)).markCount = 3 := by
      simp [State.markCount, hmark, allLanes]
    have hthrough : s.lanesThroughout (outcomes d) = 3 := by
      simp [State.lanesThroughout, hall, allLanes]
    obtain ⟨t, hexec, h⟩ := groupPeriod_lock e d s .locked hs ht hrun (by omega) (if_pos hcount)
    refine ⟨t, hexec, h.aligner, h.searchRun, h.assembly, fun l => ?_⟩
    rw [h.lane, show ((s.arrive e).extendRun (outcomes d)).lockBegun .locked = (s.arrive e).extendRun (outcomes d) from rfl,
      LaneRec.lockOutcome, if_pos (hmark l)]
    exact ⟨rfl, rfl, rfl, rfl⟩
  · generalize ha : (s.arrive e).extendRun (outcomes d) = a
    have hmark : ∀ m, (a.lane m).mark = ((s.lane m).mark && (s.lane m).searchOutcome ((outcomes d).get m)) := fun m => by
      rw [← ha, mark_extendRun (by rw [arrive_lra]; exact hrun), arrive_lane]
    have hstate : ∀ m, (a.lane m).state = (s.lane m).state := fun m => by
      rw [← ha, lane_extendRun, arrive_lane]; rfl
    have hmarked : ∀ m, m ≠ l → (a.lane m).mark = true := fun m hm => by
      rw [hmark, (hothers m hm).1, (hothers m hm).2]; rfl
    have hunmarked : (a.lane l).mark = false := (hmark l).trans hl
    have hcount : a.markCount = 2 := by
      cases l
      · simp [State.markCount, allLanes, hunmarked, hmarked .b (by decide), hmarked .c (by decide)]
      · simp [State.markCount, allLanes, hunmarked, hmarked .a (by decide), hmarked .c (by decide)]
      · simp [State.markCount, allLanes, hunmarked, hmarked .a (by decide), hmarked .b (by decide)]
    have hthrough : s.lanesThroughout (outcomes d) = 2 := by
      rw [← hcount]; simp only [State.markCount, hmark]; rfl
    have hpermit : a.concealPermit = true := by
      rw [← hconceal, ← ha]
      exact concealPermit_of_outer (arrive_outer s e)
    obtain ⟨t, hexec, h⟩ := groupPeriod_lock e d s .degraded hs ht hrun (by omega) (by
      rw [ha, State.searchRunEnd, hcount, hpermit]; rfl)
    rw [ha] at h
    have hthird := lockBegun_of_one_unmarked a l hmarked
    have hlane : ∀ m, t.lane m = ((a.lockThird l).lane m).lockOutcome.clearRuns := fun m => by rw [h.lane, hthird]
    have hrecords : a.records = s.records := by rw [← ha]; exact arrive_records s e
    have hport : ∀ p, a.port p = s.port p := fun p => by rw [← ha]; exact arrive_port s e p
    refine ⟨t, hexec, h.aligner, h.searchRun, h.assembly, fun m => by rw [hlane]; rfl, fun m hm => ?_, ?_, fun hact => ?_,
      fun hact => ?_⟩
    · rw [hlane, LaneRec.lockOutcome, if_pos ((mark_lockThird a l m).trans (hmarked m hm))]
      exact ⟨rfl, rfl, rfl⟩
    · rw [hlane, LaneRec.lockOutcome, if_neg (by rw [mark_lockThird, hunmarked]; decide), lockThird_of_unmarked hunmarked,
        hstate]
      show (State.lane (if _ then _ else _) l).state = _
      cases hl : (s.lane l).state
      · rw [if_pos rfl, lane_laneFaulted, if_pos rfl]; rfl
      · rw [if_neg nofun, hstate, hl]; rfl
      · rw [if_neg nofun, hstate, hl]; rfl
    · have hfault : a.lockThird l = a.laneFaulted l := by
        rw [lockThird_of_unmarked hunmarked, hstate, if_pos hact]
      obtain ⟨hcount, hcause⟩ := laneFaulted_reports a l
      refine ⟨?_, fun p => ?_⟩
      · rw [h.faults, hthird, hfault, hcount, hrecords]
      · rw [h.laneFault, hthird, hfault, ← hport]
        exact hcause p
    · have hsame : a.lockThird l = a := by rw [lockThird_of_unmarked hunmarked, hstate, if_neg hact]
      exact ⟨by rw [h.faults, hthird, hsame, hrecords], fun p => by rw [h.laneFault, hthird, hsame, hport]⟩
  · have hrun' : (s.arrive e).lra.searchRun = 7 := by rw [arrive_lra]; exact hrun
    have hcount : ((s.arrive e).extendRun (outcomes d)).markCount = s.lanesThroughout (outcomes d) := by
      rw [markCount_extendRun hrun']; simp only [State.lanesThroughout, arrive_lane]
    have hpermit : ((s.arrive e).extendRun (outcomes d)).concealPermit = s.concealPermit :=
      concealPermit_of_outer (arrive_outer s e)
    have hend : ((s.arrive e).extendRun (outcomes d)).searchRunEnd =
        ((s.arrive e).extendRun (outcomes d)).restartSearch := by
      rw [State.searchRunEnd, hcount, hpermit, if_neg (by omega), if_neg]
      rintro ⟨htwo, hc⟩
      rcases hfew with hlt | ⟨_, hno⟩
      · omega
      · rw [hno] at hc; exact nomatch hc
    have hu := searchGroup_of_end (s := s.arrive e) (o := outcomes d)
      (by simp only [State.lanesInWindow, arrive_lane]; exact hn) hrun'
    obtain ⟨t, hexec, haside⟩ := groupPeriod_searchGroup e d s _ hs ht (hu.trans hend) (by
      show (s.arrive e).lra.assembly ≠ _
      rw [arrive_lra]; exact hr)
    have h := alignment_of_receiverSide haside.receiver
    refine ⟨t, hexec, (aligner_of_alignment h).trans ?_, (congrArg (fun x : _ × _ × _ × Nat => x.2.2.2) h :), fun l => ?_⟩
    · exact (congrArg Lra.aligner (arrive_lra s e)).trans hs
    · rw [lane_of_alignment h, lane_restartSearch, lane_extendRun, arrive_lane]
      exact ⟨rfl, rfl, rfl, rfl⟩

/-! ## The lane test (R41) -/

theorem lane_testGroup_on (s : State) (d : PerLane Delivery) (l : Lane) (w : LaneWord) (ht : s.lra.testOn = true)
    (hw : deliveredWord (d.get l) = some w) : (s.testGroup d).lane l = (s.lane l).testWord w := by
  have hsame : ∀ u : State, (u.testLane d l).lane l = (u.lane l).testWord w := fun u => by
    rw [State.testLane, hw]; exact lane_modLane_same _ _ _
  have hother : ∀ (u : State) m, l ≠ m → (u.testLane d m).lane l = u.lane l := fun u m hm => by
    unfold State.testLane
    split
    · exact lane_modLane_other _ _ _ _ hm
    · rfl
  rw [State.testGroup, if_pos ht]
  show ((((s.testLane d .a).testLane d .b).testLane d .c).lane l) = _
  cases l
  · rw [hother _ _ (by decide), hother _ _ (by decide), hsame]
  · rw [hother _ _ (by decide), hsame, hother _ _ (by decide)]
  · rw [hsame, hother _ _ (by decide), hother _ _ (by decide)]

/-- Settles O49: while the lane test is on the outcomes go nowhere in SEARCH, and each lane's record is that of the
checked word. -/
theorem laneTestChecksEachWord : Obligations.LaneTestChecksEachWord := by
  intro e d l w s ht hs hr hw
  have htest := offLanes_testGroup (s.arrive e) d
  have halign : ((s.arrive e).testGroup d).lra.aligner = .search :=
    (aligner_testGroup _ d).trans ((congrArg Lra.aligner (arrive_lra s e)).trans hs)
  have hlra : ({ ((s.arrive e).testGroup d).lra with lanes := s.lra.lanes } : Lra) =
      { (s.arrive e).lra with lanes := s.lra.lanes } :=
    (congrArg (fun x : State => ({ x.lra with lanes := s.lra.lanes } : Lra)) htest :)
  rw [arrive_lra] at hlra
  have hon : ((s.arrive e).testGroup d).lra.testOn = true := (congrArg Lra.testOn hlra :).trans ht
  have hassembly : ((s.arrive e).testGroup d).lra.assembly = s.lra.assembly := (congrArg Lra.assembly hlra :)
  have hrun : ((s.arrive e).testGroup d).lra.searchRun = s.lra.searchRun := (congrArg Lra.searchRun hlra :)
  have hlane : ((s.arrive e).testGroup d).lane l = (s.lane l).testWord w := by
    rw [lane_testGroup_on _ d l w (by rw [arrive_lra]; exact ht) hw, arrive_lane]
  generalize hu : (s.arrive e).testGroup d = u at halign hon hassembly hrun hlane
  have htake : u.takeOutcomes (outcomes d) = u := by
    rw [State.takeOutcomes, halign]
    exact if_pos hon
  obtain ⟨t, hexec, haside⟩ := groupPeriod_search e d s u (by rw [hu, htake]) hs
    (receiving_of_assembly (by rw [hassembly]; exact hr))
  have h := alignment_of_receiverSide haside.receiver
  refine ⟨t, hexec, (aligner_of_alignment h).trans halign, (congrArg (fun x : _ × _ × _ × Nat => x.2.2.2) h :).trans hrun,
    fun hg => ?_, fun g hg => ?_⟩
  · rw [lane_of_alignment h, hlane, LaneRec.testWord, hg]
    exact ⟨rfl, rfl, rfl⟩
  · rw [lane_of_alignment h, hlane, LaneRec.testWord, hg]
    dsimp only
    rw [show (payload w).toNat = (w.extractLsb' 0 36).toNat from rfl]
    generalize (w.extractLsb' 0 36).toNat = n
    by_cases hp : (testBits 36 g).1 = n <;> simp [hp, satInc]

end Sys2Proof.Machine
end


section
/-! The counts of a group period in LOCKED and DEGRADED (R21). -/
namespace Sys2Proof.Machine

/-! ## Words that only fill -/

theorem mem_wordList (v : PerLane (Option LaneWord)) (w : LaneWord) : w ∈ wordList v ↔ ∃ l, v.get l = some w := by
  simp only [wordList, List.mem_filterMap, List.mem_cons, List.not_mem_nil, or_false, id_eq, exists_eq_right]
  exact ⟨fun h => h.elim (fun h => ⟨.a, h.symm⟩) fun h => h.elim (fun h => ⟨.b, h.symm⟩) fun h => ⟨.c, h.symm⟩,
    fun ⟨l, h⟩ => by cases l <;> simp [← h, PerLane.get]⟩

theorem get_votingWords (s : State) (d : PerLane Delivery) (l : Lane) : (s.votingWords d).get l =
    if (s.lane l).state = .active then deliveredWord (d.get l) else none := by
  cases l <;> rfl

/-- FILL words make an idle group: they are used for nothing. -/
theorem useWords_fill (s : State) (aligner : AlignerState) (v : PerLane (Option LaneWord))
    (h : ∀ w ∈ wordList v, wordKind w = .fill) : s.useWords aligner v = some s := by
  have hpixel : kindCount (wordList v) .pixel = 0 := by
    rw [kindCount, List.length_eq_zero_iff, List.filter_eq_nil_iff]
    exact fun w hw => by simp [h w hw]
  have hcontrol : controlCount (wordList v) = 0 := by
    rw [controlCount, List.length_eq_zero_iff, List.filter_eq_nil_iff]
    exact fun w hw => by simp [isControl, h w hw]
  have hlone : s.loneControl (wordList v) = s := if_neg (by omega)
  have hclass : classify aligner (wordList v) = .idle ∨ classify aligner (wordList v) = .unresolved := by
    simp only [classify, classifyLocked, classifyDegraded, hpixel, hcontrol]
    repeat' split
    all_goals simp_all
  rw [State.useWords]
  rcases hclass with hc | hc <;> rw [hc, hlone]

/-! ## The outcomes -/

theorem countGroup_of_none_lost (s : State) (o : PerLane LaneOutcome)
    (h : ∀ l, (s.lane l).state = .active → (s.lane l).countFaults s.relay.input (o.get l) = false) :
    s.countGroup o = allLanes.foldl (State.countLane o) s := by
  have hlost : (allLanes.filter fun l =>
      decide ((s.lane l).state = .active) && (s.lane l).countFaults s.relay.input (o.get l)) = [] :=
    List.filter_eq_nil_iff.mpr fun l _ hl => by
      simp only [Bool.and_eq_true, decide_eq_true_eq] at hl
      rw [h l hl.1] at hl
      exact nomatch hl.2
  unfold State.countGroup
  dsimp only
  rw [hlost]
  rfl

theorem rejoin_keeps (s : State) (m : Lane) : (s.rejoin m).relay.waitingInput = s.relay.waitingInput ∧
    ∀ l, l ≠ m → (s.rejoin m).lane l = s.lane l := by
  unfold State.rejoin
  extract_lets s1
  have hin := inputSide_reevaluate { s1 with lra.aligner := .locked }
  refine ⟨(waitingInput_of_inputSide hin).trans rfl, fun l hl => (lanes_of_inputSide hin l).trans ?_⟩
  show s1.lane l = _
  exact lane_modLane_other s m l _ hl

/-- A rejoin run is that of a lane that is not ACTIVE; an ACTIVE lane keeps its record. -/
theorem rejoinGroup_keeps (s : State) (o : PerLane LaneOutcome) :
    (s.rejoinGroup o).relay.waitingInput = s.relay.waitingInput ∧
      ∀ l, (s.lane l).state = .active → (s.rejoinGroup o).lane l = s.lane l := by
  have hmod : ∀ (u : State) m f, (u.lane m).state ≠ .active → ∀ l, (u.lane l).state = .active →
      (u.modLane m f).lane l = u.lane l := fun u m f hm l hl =>
    lane_modLane_other _ _ _ _ fun e => hm (e ▸ hl)
  unfold State.rejoinGroup State.rejoinLane
  split
  · split
    · rename_i m hm
      have hout : (s.lane m).state ≠ .active := by simpa using List.find?_some hm
      rw [if_neg hout]
      split
      · split
        · split
          · obtain ⟨hw, hl⟩ := rejoin_keeps s m
            exact ⟨hw, fun l hact => hl l fun e => hout (e ▸ hact)⟩
          · exact ⟨rfl, hmod s m _ hout⟩
        · exact ⟨rfl, hmod s m _ hout⟩
      · exact ⟨rfl, hmod s m _ hout⟩
    · exact ⟨rfl, fun _ _ => rfl⟩
  · exact ⟨rfl, fun _ _ => rfl⟩

/-- In LOCKED and DEGRADED, with no lane lost, an ACTIVE lane's counts follow its outcome. -/
theorem takeOutcomes_counts (s : State) (o : PerLane LaneOutcome) (hs : s.lra.aligner ≠ .search)
    (h : ∀ l, (s.lane l).state = .active → (s.lane l).countFaults s.relay.input (o.get l) = false) :
    (s.takeOutcomes o).relay.waitingInput = s.relay.waitingInput ∧
      ∀ l, (s.lane l).state = .active → (s.takeOutcomes o).lane l = (s.lane l).count s.relay.input (o.get l) := by
  have hrelay : (s.countGroup o).relay = s.relay := by
    rw [countGroup_of_none_lost s o h]
    exact foldl_keeps State.relay _ (relay_countLane o) _ _
  have hcount : ∀ l, (s.lane l).state = .active → (s.countGroup o).lane l = (s.lane l).count s.relay.input (o.get l) :=
    fun l hl => by rw [countGroup_of_none_lost s o h, lane_countLanes, if_pos hl]
  unfold State.takeOutcomes
  split
  · contradiction
  · exact ⟨congrArg Relay.waitingInput hrelay, hcount⟩
  · obtain ⟨hw, hkeep⟩ := rejoinGroup_keeps (s.countGroup o) o
    refine ⟨hw.trans (congrArg Relay.waitingInput hrelay), fun l hl => (hkeep l ?_).trans (hcount l hl)⟩
    rw [hcount l hl, state_count, hl]

/-- Settles O7: FILL words are used for nothing, and what follows the event leaves the lanes. -/
theorem countsFollowOutcomes : Obligations.CountsFollowOutcomes := by
  intro e d s hs hw hfill hno
  have hrelay : ((s.arrive e).testGroup d).relay = s.relay := (relay_testGroup _ d).trans (arrive_relay s e)
  have hlane : ∀ l, (((s.arrive e).testGroup d).lane l).state = (s.lane l).state ∧
      (((s.arrive e).testGroup d).lane l).missCount = (s.lane l).missCount ∧
      (((s.arrive e).testGroup d).lane l).skewCount = (s.lane l).skewCount := fun l => by
    rw [← arrive_lane s e l]; exact lane_testGroup _ d l
  have halign : ((s.arrive e).testGroup d).lra.aligner ≠ .search := by
    rw [aligner_testGroup, arrive_lra]; exact hs
  obtain ⟨hwait, hcount⟩ := takeOutcomes_counts _ (outcomes d) halign fun l hl => by
    obtain ⟨hstate, hmiss, hskew⟩ := hlane l
    rw [hrelay, countFaults_congr _ _ _ _ hmiss hskew]
    exact hno l (hstate ▸ hl)
  have hclose : (s.arrive e).closeGroup d = some (((s.arrive e).testGroup d).takeOutcomes (outcomes d)) := by
    rw [State.closeGroup]
    split
    · rfl
    · refine useWords_fill _ _ _ fun w hw => ?_
      obtain ⟨l, hl⟩ := (mem_wordList _ w).mp hw
      rw [get_votingWords] at hl
      split at hl
      · exact hfill l w hl
      · exact nomatch hl
  generalize ((s.arrive e).testGroup d).takeOutcomes (outcomes d) = u at hwait hcount hclose
  have h := alignment_settle u (s.arrive e) (by rw [hwait, hrelay]; exact hw)
  refine ⟨_, exec_groupPeriod e d s u hclose, fun l hl => ?_⟩
  obtain ⟨hstate, hmiss, hskew⟩ := hlane l
  rw [lane_of_alignment h, hcount l (hstate.trans hl), hrelay]
  refine ⟨(state_count _ _ _).trans (hstate.trans hl), ?_⟩
  cases (outcomes d).get l
  · exact ⟨rfl, rfl⟩
  · exact ⟨hmiss, by rw [← hskew]; rfl⟩
  · exact ⟨hskew, by rw [← hmiss]; rfl⟩

end Sys2Proof.Machine
end


section
/-! A locked group period that brings a word on every lane: the vote and the pixel group (R28 to R30, R35, R36). -/
namespace Sys2Proof.Machine

/-! ## What follows an event leaves the held preface -/

/-- The held preface and the count of unknown descriptors. -/
def State.descriptors (s : State) : Preface × Nat := (s.lra.preface, s.records.stats.unknownDescriptors)

theorem descriptors_of_receiverSide {s t : State} (h : t.receiverSide = s.receiverSide) : t.descriptors = s.descriptors :=
  (congrArg (fun x : ReceiverSide => (x.lra.preface, x.stats.2.1)) h :)

theorem descriptors_cutReceived (s : State) : s.cutReceived.descriptors = s.descriptors :=
  (congrArg (fun x : ReceiverSide => (x.lra.preface, x.stats.2.1)) (receiverSide_cutReceived s) :)

theorem descriptors_installInput (s : State) : s.installInput.1.descriptors = s.descriptors := by
  unfold State.installInput
  split
  · rfl
  · dsimp only
    rw [State.eachFree, foldl_keeps State.descriptors State.laneFaulted fun _ _ => rfl]
    rfl

theorem descriptors_enterSearch (s : State) (onLane : LaneRec → LaneRec) :
    (s.enterSearch onLane).descriptors = s.descriptors := by
  have hb : (s.searchBegun onLane).descriptors = s.descriptors := descriptors_cutReceived s
  rw [enterSearch_eq, descriptors_of_receiverSide (receiverSide_reevaluate _)]
  split
  · rw [descriptors_installInput, hb]
  · exact hb

theorem descriptors_laneLost (s : State) (l : Lane) : (s.laneLost l).descriptors = s.descriptors := by
  unfold State.laneLost
  split
  · split
    · rfl
    · exact descriptors_enterSearch s _
  · exact descriptors_enterSearch s _
  · rfl

theorem descriptors_settle (s before : State) : (s.settle before).descriptors = s.descriptors := by
  have hcut : ∀ u : State, u.cutAtBoundary.descriptors = u.descriptors := fun u => by
    unfold State.cutAtBoundary
    split
    · rw [State.applyInputNow, foldl_keeps State.descriptors _ descriptors_laneLost, descriptors_installInput,
        descriptors_cutReceived]
    · rfl
  cases follows_settle s before with
  | aside h => exact descriptors_of_receiverSide h.receiver
  | cut u _ _ hbefore hafter =>
    rw [descriptors_of_receiverSide hafter.receiver, hcut, descriptors_of_receiverSide hbefore.receiver]

/-! ## A word on every lane -/

/-- A locked group period with a word in window on every lane uses the three words, and changes only lane records
beside. -/
theorem closeGroup_words (s : State) (u v w : LaneWord) (hlock : s.lra.aligner = .locked)
    (hact : ∀ l, (s.lane l).state = .active) (hu : hasSync u = true) (hv : hasSync v = true) (hw : hasSync w = true) :
    ∃ x : State, x.offLanes = s.offLanes ∧ s.closeGroup { a := .inWindow u, b := .inWindow v, c := .inWindow w } =
      x.useWords .locked { a := some u, b := some v, c := some w } := by
  generalize hd : ({ a := .inWindow u, b := .inWindow v, c := .inWindow w } : PerLane Delivery) = d
  have houtcome : ∀ l, (outcomes d).get l = .inWindow := fun l => by
    rw [← hd]
    cases l
    · exact if_pos hu
    · exact if_pos hv
    · exact if_pos hw
  have hwords : s.votingWords d = { a := some u, b := some v, c := some w } := by
    rw [← hd]
    simp only [State.votingWords, show s.lra.lanes.a.state = .active from hact .a,
      show s.lra.lanes.b.state = .active from hact .b, show s.lra.lanes.c.state = .active from hact .c, if_true,
      deliveredWord, hu, hv, hw]
  have htest := offLanes_testGroup s d
  have hcount := (offLanes_countGroup (s.testGroup d) _ houtcome).trans htest
  have halign1 : (s.testGroup d).lra.aligner = .locked := (aligner_testGroup s d).trans hlock
  have halign2 := (congrArg (fun x : State => x.lra.aligner) hcount :).trans hlock
  refine ⟨_, hcount, ?_⟩
  unfold State.closeGroup State.takeOutcomes
  simp only [halign1, hlock, hwords]
  exact if_neg fun h => h.elim nofun fun h => absurd (Eq.trans (Eq.symm halign2) h) (by decide)

/-- The state as the words of a group period are used: as the command found it, but for lane records. -/
structure WordsFound (e : Env) (s x : State) : Prop where
  lra : { x.lra with lanes := s.lra.lanes } = s.lra
  relay : x.relay = s.relay
  records : x.records = s.records
  port : ∀ p, x.port p = s.port p
  sco : x.sco = s.sco
  store : x.store = (s.arrive e).store

theorem wordsFound_of_offLanes {e : Env} {s x : State} (h : x.offLanes = (s.arrive e).offLanes) : WordsFound e s x where
  lra := by
    have hlra : ({ x.lra with lanes := s.lra.lanes } : Lra) = { (s.arrive e).lra with lanes := s.lra.lanes } :=
      (congrArg (fun y : State => ({ y.lra with lanes := s.lra.lanes } : Lra)) h :)
    rwa [arrive_lra] at hlra
  relay := (congrArg State.relay h :).trans (arrive_relay s e)
  records := (congrArg State.records h :).trans (arrive_records s e)
  port p := (congrArg (fun y : State => y.port p) h :).trans (arrive_port s e p)
  sco := (congrArg State.sco h :).trans (arrive_sco s e)
  store := (congrArg State.store h :)

/-- The whole command, with a word in window on every lane. -/
theorem groupPeriod_words (e : Env) (u v w : LaneWord) (s : State) (hlock : s.lra.aligner = .locked)
    (hact : ∀ l, (s.lane l).state = .active) (hu : hasSync u = true) (hv : hasSync v = true) (hw : hasSync w = true) :
    ∃ x : State, WordsFound e s x ∧ ∀ y,
      x.useWords .locked { a := some u, b := some v, c := some w } = some y →
      exec (.groupPeriod e { a := .inWindow u, b := .inWindow v, c := .inWindow w }) s = .next (y.settle (s.arrive e)) := by
  obtain ⟨x, hx, hclose⟩ := closeGroup_words (s.arrive e) u v w ((congrArg Lra.aligner (arrive_lra s e)).trans hlock)
    (fun l => by rw [arrive_lane]; exact hact l) hu hv hw
  exact ⟨x, wordsFound_of_offLanes hx, fun y hy => exec_groupPeriod e _ s y (hclose.trans hy)⟩

/-! ## The vote (R28 to R30) -/

/-- A group of three control words goes to the vote. -/
theorem useWords_control (s : State) (u v w : LaneWord) (hu : isControl u = true) (hv : isControl v = true)
    (hw : isControl w = true) :
    s.useWords .locked { a := some u, b := some v, c := some w } = s.controlGroup [u, v, w] := by
  have hpixel : ∀ x, isControl x = true → wordKind x ≠ .pixel := fun x hx hp => by
    rw [isControl, hp] at hx
    exact nomatch hx
  have hclass : classify .locked (wordList { a := some u, b := some v, c := some w }) = .control := by
    simp [wordList, classify, classifyLocked, kindCount, controlCount, hu, hv, hw, hpixel]
  rw [State.useWords, hclass]
  rfl

theorem takeDescriptor_descriptors (s : State) (w : LaneWord) : (s.takeDescriptor w).descriptors =
    if 7 ≤ wordCode w then (s.lra.preface, bump s.records.stats.unknownDescriptors)
    else (s.lra.preface.accept (wordCode w) (descriptorValue w), s.records.stats.unknownDescriptors) := by
  unfold State.takeDescriptor
  split <;> rfl

/-- Three words that differ in pairs: none is carried by two lanes. -/
theorem votedWord_of_distinct (u v w : LaneWord) (huv : sameWord u v = false) (huw : sameWord u w = false)
    (hvw : sameWord v w = false) : votedWord [u, v, w] = none := by
  have hsym : ∀ y z, sameWord y z = sameWord z y := fun y z => by simp only [sameWord, eq_comm]
  have hself : ∀ y, sameWord y y = true := fun y => by simp [sameWord]
  have hone : ∀ y ∈ [u, v, w], ([u, v, w].filter (sameWord y)).length ≤ 1 := fun y hy => by
    simp only [List.mem_cons, List.not_mem_nil, or_false] at hy
    rcases hy with rfl | rfl | rfl
    · simp [hself, huv, huw]
    · simp [hself, hsym y u, huv, hvw]
    · simp [hself, hsym y u, hsym y v, huw, hvw]
  rw [votedWord, List.find?_eq_none]
  intro y hy
  have := hone y (List.mem_of_mem_filter hy)
  simpa using by omega

/-- Settles O9: an agreed descriptor is taken, three different words fail the vote. -/
theorem theVoteDecides : Obligations.TheVoteDecides := by
  refine ⟨fun e w s hlock hact hw hk => ?_,
    fun e u v w s hlock hact hpanel hu hv hw hcu hcv hcw huv huw hvw => ?_⟩
  · obtain ⟨x, hx, hexec⟩ := groupPeriod_words e w w w s hlock hact hw hw hw
    have hctl : isControl w = true := by rw [isControl, hk]; rfl
    have hvote : votedWord [w, w, w] = some w := by simp [votedWord, hctl, sameWord]
    have huse : x.useWords .locked { a := some w, b := some w, c := some w } = some (x.takeDescriptor w) := by
      rw [useWords_control x w w w hctl hctl hctl, State.controlGroup, hvote]
      exact if_pos hk
    have hd := (descriptors_settle (x.takeDescriptor w) (s.arrive e)).trans (takeDescriptor_descriptors x w)
    have hpreface : x.lra.preface = s.lra.preface := (congrArg Lra.preface hx.lra :)
    rw [hpreface, hx.records] at hd
    have hstep := hexec _ huse
    generalize State.settle _ (s.arrive e) = t at hd hstep
    refine ⟨t, hstep, fun hc => ?_, fun hc => ?_⟩
    · rw [if_neg (by omega)] at hd
      exact Prod.mk.inj hd
    · rw [if_pos hc] at hd
      exact Prod.mk.inj hd
  · obtain ⟨x, hx, hexec⟩ := groupPeriod_words e u v w s hlock hact hu hv hw
    have hvote := votedWord_of_distinct u v w huv huw hvw
    have huse : x.useWords .locked { a := some u, b := some v, c := some w } = some x.voteFailed := by
      rw [useWords_control x u v w hcu hcv hcw, State.controlGroup, hvote]
    have hstep := hexec _ huse
    have h := (aside_settle x.voteFailed (s.arrive e) (.inl (by
      show x.relay.waitingPanel = none
      rw [hx.relay]; exact hpanel))).receiver
    generalize State.settle _ (s.arrive e) = t at h hstep
    have hlra : ({ t.lra with lanes := s.lra.lanes, staging := [] } : Lra) = { s.lra with staging := [] } := by
      rw [← hx.lra]
      exact (congrArg (fun y : ReceiverSide => ({ y.lra with lanes := s.lra.lanes } : Lra)) h :)
    refine ⟨t, hstep, ?_, (congrArg Lra.preface hlra :), (congrArg Lra.assembly hlra :), (congrArg Lra.frame hlra :),
      (congrArg Lra.linesDone hlra :), (congrArg Lra.groupIndex hlra :), (congrArg Lra.lineBuffer hlra :)⟩
    rw [← hx.records]
    exact (congrArg (fun y : ReceiverSide => y.stats.1) h :)

/-! ## The pixel group (R35, R36) -/

theorem useWords_pixel (s : State) (u v w : LaneWord) (hu : wordKind u = .pixel) (hv : wordKind v = .pixel)
    (hw : wordKind w = .pixel) : s.useWords .locked { a := some u, b := some v, c := some w } =
      some (s.pixelGroup { a := some u, b := some v, c := some w }) := by
  have hclass : classify .locked (wordList { a := some u, b := some v, c := some w }) = .pixel := by
    simp [wordList, classify, classifyLocked, kindCount, hu, hv, hw]
  have hlone : s.loneControl (wordList { a := some u, b := some v, c := some w }) = s :=
    if_neg (by simp [wordList, controlCount, isControl, hu, hv, hw])
  rw [State.useWords, hclass, hlone]

/-- The positions of a group that lie within the width join the line. -/
theorem storeGroup_eq_take (width : Nat) (buffer ps : List (Option Rgb)) (h : buffer.length ≤ width) :
    storeGroup width buffer ps = (buffer ++ ps).take width := by
  rw [storeGroup, List.take_append, List.take_of_length_le h]

/-- The PIXEL words beyond the width, of a group of three. -/
theorem excessOf_three (width used : Nat) (p q r : Rgb) (h : used ≤ width) :
    excessOf width used [some p, some q, some r] = used + 3 - width := by
  have hall : ∀ ps : List Rgb, ((ps.map some).drop (width - used)).filterMap id = ps.drop (width - used) := fun ps => by
    rw [← List.map_drop, List.filterMap_map]
    exact List.filterMap_some
  rw [excessOf, show [some p, some q, some r] = [p, q, r].map some from rfl, hall, List.length_drop]
  show 3 - (width - used) = _
  omega

/-- Settles O10: the pixel group's part of the line assembly, which what follows the event leaves. -/
theorem pixelGroupExtendsTheLine : Obligations.PixelGroupExtendsTheLine := by
  intro e u v w f s hlock hact hpanel hrec hf hlines hgroup hlen hu hv hw hku hkv hkw
  obtain ⟨x, hx, hexec⟩ := groupPeriod_words e u v w s hlock hact hu hv hw
  have hstep := hexec _ (useWords_pixel x u v w hku hkv hkw)
  have hxlines : x.lra.linesDone = s.lra.linesDone := (congrArg Lra.linesDone hx.lra :)
  have hxgroup : x.lra.groupIndex = s.lra.groupIndex := (congrArg Lra.groupIndex hx.lra :)
  have hreceiving : x.receiving = some f := by
    rw [State.receiving, if_pos ((congrArg Lra.assembly hx.lra :).trans hrec)]
    exact (congrArg Lra.frame hx.lra :).trans hf
  have hwidth : 3 * s.lra.groupIndex < f.width := by
    rw [ceilDiv] at hgroup
    omega
  have hbuffer : x.lra.lineBuffer.length ≤ f.width := by
    rw [show x.lra.lineBuffer = s.lra.lineBuffer from (congrArg Lra.lineBuffer hx.lra :), hlen]; omega
  have hpixel : ∀ z, wordKind z = .pixel → suppliedPixel f.depth (some z) = some (alignPixel f.depth (pixelOf z)) :=
    fun z hz => if_pos hz
  have hgrown : x.pixelGroup { a := some u, b := some v, c := some w } = { x with
      lra.groupIndex := x.lra.groupIndex + 1
      lra.lineBuffer := (x.lra.lineBuffer ++ [some (alignPixel f.depth (pixelOf u)),
        some (alignPixel f.depth (pixelOf v)), some (alignPixel f.depth (pixelOf w))]).take f.width
      lra.excessWords := satAdd max32 x.lra.excessWords (3 * x.lra.groupIndex + 3 - f.width) } := by
    rw [State.pixelGroup, hreceiving]
    dsimp only
    rw [if_neg (by omega), if_neg (by omega), hpixel u hku, hpixel v hkv, hpixel w hkw,
      storeGroup_eq_take _ _ _ hbuffer, excessOf_three _ _ _ _ _ (by omega)]
  generalize x.pixelGroup { a := some u, b := some v, c := some w } = y at hgrown hstep
  have h := (aside_settle y (s.arrive e) (.inl (by
    rw [hgrown]
    show x.relay.waitingPanel = none
    rw [hx.relay]; exact hpanel))).receiver
  generalize State.settle _ (s.arrive e) = t at h hstep
  have hlra : ({ t.lra with lanes := s.lra.lanes, staging := [] } : Lra) =
      { y.lra with lanes := s.lra.lanes, staging := [] } :=
    (congrArg (fun z : ReceiverSide => ({ z.lra with lanes := s.lra.lanes } : Lra)) h :)
  have hxlra := hx.lra
  subst hgrown
  refine ⟨t, hstep, (congrArg Lra.groupIndex hlra).trans (congrArg (fun z : Lra => z.groupIndex + 1) hxlra :),
    (congrArg Lra.linesDone hlra).trans hxlines, (congrArg Lra.lineBuffer hlra).trans ?_,
    (congrArg Lra.excessWords hlra).trans ?_, (congrArg Lra.assembly hlra).trans ?_, (congrArg Lra.frame hlra).trans ?_⟩
  · rw [← show x.lra.lineBuffer = s.lra.lineBuffer from (congrArg Lra.lineBuffer hxlra :)]
  · rw [← hxgroup, ← show x.lra.excessWords = s.lra.excessWords from (congrArg Lra.excessWords hxlra :)]
    rfl
  · exact (congrArg Lra.assembly hxlra :).trans hrec
  · exact (congrArg Lra.frame hxlra :).trans hf

end Sys2Proof.Machine
end


section
/-! Depth alignment, and the concealment of a completed line (R36). -/
namespace Sys2Proof.Machine

/-! ## Depth alignment -/

theorem toNat_alignComponent (d : Nat) (c : Component) (h : d ≤ 12) :
    (alignComponent d c).toNat = c.toNat % 2 ^ d * 2 ^ (12 - d) := by
  have hlt : c.toNat % 2 ^ d * 2 ^ (12 - d) < 2 ^ 12 := by
    calc c.toNat % 2 ^ d * 2 ^ (12 - d) < 2 ^ d * 2 ^ (12 - d) :=
          Nat.mul_lt_mul_of_pos_right (Nat.mod_lt _ (by positivity)) (by positivity)
      _ = 2 ^ 12 := by rw [← Nat.pow_add, Nat.add_sub_cancel' h]
  rw [alignComponent, BitVec.toNat_ofNat, Nat.mod_eq_of_lt hlt]

/-! ## Concealment -/

theorem length_concealFrom (left : Option Rgb) (xs : List (Option Rgb)) : (concealFrom left xs).length = xs.length := by
  induction xs generalizing left with
  | nil => rfl
  | cons x xs ih => cases x <;> simp [concealFrom, ih]

/-- The last received pixel of a list. -/
def lastReceived (xs : List (Option Rgb)) : Option Rgb := (xs.filterMap id).getLast?

theorem lastReceived_cons_some (p : Rgb) (xs : List (Option Rgb)) (left : Option Rgb) :
    (lastReceived (some p :: xs)).or left = (lastReceived xs).or (some p) := by
  show ((p :: xs.filterMap id).getLast?).or left = ((xs.filterMap id).getLast?).or (some p)
  rw [List.getLast?_cons]
  cases (xs.filterMap id).getLast? <;> rfl

/-- A received position keeps its pixel; a missing one is concealed by the nearest received pixels of its two sides. -/
theorem getElem?_concealFrom (left : Option Rgb) (xs : List (Option Rgb)) (i : Nat) (q : Option Rgb) (h : xs[i]? = some q) :
    (concealFrom left xs)[i]? = some (q.getD (concealPixel ((lastReceived (xs.take i)).or left)
      (firstReceived (xs.drop (i + 1))))) := by
  induction xs generalizing left i with
  | nil => exact nomatch h
  | cons x xs ih =>
    cases i with
    | zero =>
      obtain rfl : x = q := by simpa using h
      cases x <;> rfl
    | succ i =>
      have hq : xs[i]? = some q := by simpa using h
      cases x with
      | none => exact ih left i hq
      | some p =>
        rw [List.take_succ_cons, lastReceived_cons_some]
        exact ih (some p) i hq

/-! ## The line at its full width -/

theorem length_fullLine (width : Nat) (buffer : List (Option Rgb)) (h : buffer.length ≤ width) :
    (fullLine width buffer).length = width := by
  rw [fullLine, List.length_append, List.length_replicate]
  omega

/-- A position that no group brought is missing. -/
theorem getElem?_fullLine (width : Nat) (buffer : List (Option Rgb)) (x : Nat) (h : x < width) :
    (fullLine width buffer)[x]? = some (buffer[x]?).join := by
  rw [fullLine]
  by_cases hx : x < buffer.length
  · rw [List.getElem?_append_left hx, List.getElem?_eq_getElem hx]
    rfl
  · rw [List.getElem?_append_right (by omega), List.getElem?_replicate_of_lt (by omega),
      List.getElem?_eq_none (l := buffer) (by omega)]
    rfl

theorem received_replicate (n : Nat) : (List.replicate n (none : Option Rgb)).filterMap id = [] := by
  rw [List.filterMap_eq_nil_iff]
  exact fun x hx => List.eq_of_mem_replicate hx

theorem lastReceived_fullLine (width : Nat) (buffer : List (Option Rgb)) (x : Nat) :
    lastReceived ((fullLine width buffer).take x) = ((buffer.take x).filterMap id).getLast? := by
  rw [lastReceived, fullLine, List.take_append, List.take_replicate, List.filterMap_append, received_replicate,
    List.append_nil]

theorem firstReceived_fullLine (width : Nat) (buffer : List (Option Rgb)) (x : Nat) :
    firstReceived ((fullLine width buffer).drop x) = ((buffer.drop x).filterMap id).head? := by
  rw [firstReceived, fullLine, List.drop_append, List.drop_replicate, List.filterMap_append, received_replicate,
    List.append_nil]

/-- The mean of two components, rounded up, is a component. -/
theorem toNat_meanComponent (l r : Component) : (meanComponent l r).toNat = (l.toNat + r.toNat + 1) / 2 := by
  have hl := l.isLt
  have hr := r.isLt
  rw [meanComponent, BitVec.toNat_ofNat, Nat.mod_eq_of_lt (by omega)]

/-- Settles O11: the nearest received pixels of a position of the full line are those of the line buffer. -/
theorem concealmentByNearestNeighbours : Obligations.ConcealmentByNearestNeighbours := by
  refine ⟨fun d c hd => toNat_alignComponent d c (by omega), fun width buffer hlen => ⟨?_, fun x hx => ?_⟩⟩
  · rw [length_concealFrom, length_fullLine width buffer hlen]
  · refine ⟨_, getElem?_concealFrom none _ x _ (getElem?_fullLine width buffer x hx), ?_⟩
    rw [lastReceived_fullLine, firstReceived_fullLine, Option.or_none]
    cases (buffer[x]?).join with
    | some q => rfl
    | none =>
      cases ((buffer.take x).filterMap id).getLast? with
      | none => cases ((buffer.drop (x + 1)).filterMap id).head? <;> simp [concealPixel]
      | some l =>
        cases ((buffer.drop (x + 1)).filterMap id).head? with
        | none => rfl
        | some r => exact ⟨toNat_meanComponent _ _, toNat_meanComponent _ _, toNat_meanComponent _ _⟩

end Sys2Proof.Machine
end


section
/-! The marks of a locked group period: an LE that completes a line, a refused FS (R32, R35, R37, R38, R48). -/
namespace Sys2Proof.Machine

/-! ## A read of a slice entry -/

/-- What a read of a slice entry leaves of every slot: the frame's own registers. -/
def Slot.frame (r : Slot) : Stamp × Nat × Nat × Nat × Nat :=
  (r.arrival, r.linesReceived, r.height, r.sliceHeight, r.slices)

theorem frame_completeIfResolved (s : State) (i k : Fin 5) :
    ((s.completeIfResolved i).slot k).frame = (s.slot k).frame ∧
      (((s.completeIfResolved i).slot k).state = (s.slot k).state ∨
        (s.slot k).state = .draining ∧ ((s.completeIfResolved i).slot k).state = .complete) := by
  rcases slot_completeIfResolved s i k with e | ⟨hd, d, e⟩ <;> rw [e]
  · exact ⟨rfl, .inl rfl⟩
  · exact ⟨rfl, .inr ⟨hd, rfl⟩⟩

theorem frame_unmarkReady (r : Slot) (j : Nat) : (r.unmarkReady j).frame = r.frame ∧ (r.unmarkReady j).state = r.state := by
  unfold Slot.unmarkReady
  split <;> exact ⟨rfl, rfl⟩

/-- A read of an entry leaves every slot's frame, and its state unless the frame completes. -/
theorem frame_checkEntry (s : State) (i : Fin 5) (j : Nat) (k : Fin 5) :
    ((s.checkEntry i j).slot k).frame = (s.slot k).frame ∧
      (((s.checkEntry i j).slot k).state = (s.slot k).state ∨
        (s.slot k).state = .draining ∧ ((s.checkEntry i j).slot k).state = .complete) := by
  have hmod : ∀ f : Slot → Slot, (∀ r, (f r).frame = r.frame ∧ (f r).state = r.state) →
      ((s.modSlot i f).slot k).frame = (s.slot k).frame ∧ ((s.modSlot i f).slot k).state = (s.slot k).state :=
    fun f hf => by
      by_cases hk : k = i
      · subst hk; rw [slot_modSlot_same]; exact hf _
      · rw [slot_modSlot_other _ _ _ _ hk]; exact ⟨rfl, rfl⟩
  unfold State.checkEntry
  split
  · exact ⟨rfl, .inl rfl⟩
  · obtain ⟨hf, hs⟩ := hmod (fun r => r.setEntry j { r.entry j with check := .good }) fun _ => ⟨rfl, rfl⟩
    exact ⟨hf, .inl hs⟩
  · obtain ⟨hf, hs⟩ := hmod (fun r => (r.unmarkReady j).setEntry j SliceEntry.rewritten) fun r => frame_unmarkReady r j
    obtain ⟨hf', hs'⟩ := frame_completeIfResolved ((s.modSlot i fun r =>
      (r.unmarkReady j).setEntry j SliceEntry.rewritten).raise .sliceTableUncorrectable 0) i k
    exact ⟨hf'.trans hf, hs'.imp (·.trans hs) fun ⟨hd, hc⟩ => ⟨hs.symm.trans hd, hc⟩⟩

/-! ## The line joins the queue -/

/-- A completed line's report raises the lines received, and the slot goes on holding its frame. -/
theorem slot_lineCompleted (s : State) (k : Fin 5) (y : Nat) (concealed joins : Bool) :
    ((s.lineCompleted k y concealed joins).slot k).linesReceived = y + 1 ∧
      ∀ a, s.holdsFrame k a = true → (s.lineCompleted k y concealed joins).holdsFrame k a = true := by
  unfold State.lineCompleted
  extract_lets s1 j s2
  have h1 : s1.slot k = { s.slot k with
      linesReceived := y + 1
      concealedLines := if concealed then (s.slot k).concealedLines + 1 else (s.slot k).concealedLines } :=
    slot_modSlot_same _ _ _
  obtain ⟨hframe, hstate⟩ := frame_checkEntry s1 k j k
  rw [h1] at hframe hstate
  have h2 : (s2.slot k).linesReceived = y + 1 ∧ ∀ a, s.holdsFrame k a = true → s2.holdsFrame k a = true := by
    refine ⟨congrArg (fun x : Stamp × Nat × _ => x.2.1) hframe, fun a ha => ?_⟩
    simp only [State.holdsFrame, Bool.and_eq_true, decide_eq_true_eq] at ha ⊢
    refine ⟨?_, (congrArg Prod.fst hframe).trans ha.2⟩
    rcases hstate with e | ⟨_, e⟩
    · rw [e]; exact ha.1
    · rw [e]; exact nofun
  split
  · have h3 : (s2.modSlot k fun r => r.setEntry j { r.entry j with state := .filling }).slot k =
        (s2.slot k).setEntry j { (s2.slot k).entry j with state := .filling } := slot_modSlot_same _ _ _
    refine ⟨by rw [h3]; exact h2.1, fun a ha => ?_⟩
    rw [State.holdsFrame, h3]
    exact h2.2 a ha
  · exact h2

theorem wakeMemory_keeps (s : State) : s.wakeMemory.lra = s.lra ∧ s.wakeMemory.store = s.store := by
  unfold State.wakeMemory
  split <;> exact ⟨rfl, rfl⟩

/-- The line an LE completes, as it is staged. -/
def State.stagedLine (s : State) (f : RxFrame) : StagedLine :=
  { slot := f.slot, arrival := f.arrival, line := s.lra.linesDone
    concealed := (fullLine f.width s.lra.lineBuffer).any fun p => p.isNone
    pixels := concealFrom none (fullLine f.width s.lra.lineBuffer) }

/-- An LE below H with room in the queue: what it leaves of the receiver and of the frame's slot. -/
theorem lineEnd_stages (s : State) (f : RxFrame) (hlines : s.lra.linesDone < f.height)
    (hroom : s.lra.staging.length < 64) (hhold : s.holdsFrame f.slot f.arrival = true) :
    (s.lineEnd f).lra = { s.lra with
        staging := s.lra.staging ++ [s.stagedLine f], linesDone := s.lra.linesDone + 1, groupIndex := 0, lineBuffer := [] } ∧
      ((s.lineEnd f).slot f.slot).linesReceived = s.lra.linesDone + 1 ∧
      (s.lineEnd f).holdsFrame f.slot f.arrival = true := by
  generalize hc : ((fullLine f.width s.lra.lineBuffer).any fun p => p.isNone) = concealed
  generalize hu : s.lineCompleted f.slot s.lra.linesDone concealed true = u
  have hlra : u.lra = s.lra := by rw [← hu]; exact lra_lineCompleted _ _ _ _ _
  obtain ⟨hreceived, hkeep⟩ := slot_lineCompleted s f.slot s.lra.linesDone concealed true
  rw [hu] at hreceived hkeep
  have hstage : s.stageLine f concealed (concealFrom none (fullLine f.width s.lra.lineBuffer)) =
      State.wakeMemory { u with lra.staging := s.lra.staging ++ [s.stagedLine f] } := by
    rw [State.stageLine]
    dsimp only
    rw [decide_eq_true hroom, hu, hlra, State.stagedLine, hc]
    rfl
  obtain ⟨hw, hstore⟩ := wakeMemory_keeps { u with lra.staging := s.lra.staging ++ [s.stagedLine f] }
  rw [← hstage] at hw hstore
  rw [State.lineEnd, if_neg (by omega)]
  dsimp only
  rw [hc]
  generalize s.stageLine f concealed (concealFrom none (fullLine f.width s.lra.lineBuffer)) = v at hw hstore ⊢
  have hv : ∀ z : State, z.lra = v.lra → z.store = v.store →
      ({ z.lra with linesDone := s.lra.linesDone + 1, groupIndex := 0, lineBuffer := [] } : Lra) = { s.lra with
        staging := s.lra.staging ++ [s.stagedLine f], linesDone := s.lra.linesDone + 1, groupIndex := 0, lineBuffer := [] } ∧
      (z.slot f.slot).linesReceived = s.lra.linesDone + 1 ∧ z.holdsFrame f.slot f.arrival = true := fun z hz hs => by
    have hslot : z.slot f.slot = u.slot f.slot := by rw [State.slot, hs, hstore]; rfl
    refine ⟨?_, by rw [hslot, hreceived], by rw [State.holdsFrame, hslot]; exact hkeep _ hhold⟩
    rw [hz, hw, ← hlra]
  split
  · exact hv (v.stat fun c => { c with concealedLines := bump c.concealedLines }) rfl rfl
  · exact hv v rfl rfl

/-! ## What follows an LE -/

/-- A live line at the tail of the staging queue is there when the memory port has settled. -/
theorem settleMemory_of_live_tail (s : State) (q : List StagedLine) (m : StagedLine) (hq : s.lra.staging = q ++ [m])
    (hm : s.holdsFrame m.slot m.arrival = true) : s.settleMemory.store = s.store ∧
      { s.settleMemory.lra with staging := [] } = { s.lra with staging := [] } ∧
      s.settleMemory.lra.staging.getLast? = some m := by
  have hlive : ∀ (p : StagedLine → Bool) (xs : List StagedLine), p m = false →
      ((xs ++ [m]).dropWhile p).getLast? = some m := fun p xs hp => by
    induction xs with
    | nil => simp [hp]
    | cons x xs ih =>
      rw [List.cons_append, List.dropWhile_cons]
      split
      · exact ih
      · rw [← List.cons_append, List.getLast?_concat]
  have hdrop : s.dropDeadHeads.lra.staging.getLast? = some m := by
    unfold State.dropDeadHeads
    split
    · rw [hq, List.getLast?_concat]
    · rw [hq]
      exact hlive _ q (by rw [hm]; rfl)
  have hrest : ∀ u : State, u.lra.staging.getLast? = some m → u.checkRest = u := fun u hu => by
    have hne : u.lra.staging ≠ [] := fun e => by rw [e] at hu; exact nomatch hu
    exact if_neg (by simp [State.mayRest, hne])
  have hoff := (offMemory_arbitrateFor 3 s.dropDeadHeads).trans (offMemory_dropDeadHeads s)
  have hsettle : s.settleMemory = s.dropDeadHeads.arbitrate := by
    rw [State.settleMemory, hrest _ hdrop, hrest _ (by rw [lra_arbitrate]; exact hdrop)]
  rw [hsettle]
  exact ⟨store_of_offMemory hoff, (congrArg State.lra hoff :), by rw [lra_arbitrate]; exact hdrop⟩

/-- A mark that every lane carries, as a group of words. -/
theorem groupPeriod_mark (e : Env) (w : LaneWord) (s : State) (hlock : s.lra.aligner = .locked)
    (hact : ∀ l, (s.lane l).state = .active) (hw : hasSync w = true) (hk : wordKind w = .mark) :
    ∃ x : State, WordsFound e s x ∧ ∀ y, x.takeMark w = some y →
      exec (.groupPeriod e (onEveryLane (.inWindow w))) s = .next (y.settle (s.arrive e)) := by
  obtain ⟨x, hx, hexec⟩ := groupPeriod_words e w w w s hlock hact hw hw hw
  exact ⟨x, hx, fun y hy => hexec y ((useWords_mark x w hk).trans hy)⟩

/-- Settles O12: the line is staged, and stays at the tail of the queue as the memory port settles. -/
theorem lineEndStagesTheLine : Obligations.LineEndStagesTheLine := by
  intro e w f s hlock hact hready hrec hf hlines hroom hhold hw hk hc
  obtain ⟨x, hx, hexec⟩ := groupPeriod_mark e w s hlock hact hw hk
  have hreceiving : x.receiving = some f := by
    rw [State.receiving, if_pos ((congrArg Lra.assembly hx.lra :).trans hrec)]
    exact (congrArg Lra.frame hx.lra :).trans hf
  have hstep := hexec (x.lineEnd f) (by simp only [State.takeMark, hc, hreceiving])
  have hxlines : x.lra.linesDone = s.lra.linesDone := (congrArg Lra.linesDone hx.lra :)
  have hxstaging : x.lra.staging = s.lra.staging := (congrArg Lra.staging hx.lra :)
  have hxbuffer : x.lra.lineBuffer = s.lra.lineBuffer := (congrArg Lra.lineBuffer hx.lra :)
  have hxhold : x.holdsFrame f.slot f.arrival = true := by
    rw [← hhold, ← holdsFrame_arrive s e, State.holdsFrame, State.slot, hx.store]; rfl
  obtain ⟨hlra, hslot, hkeep⟩ := lineEnd_stages x f (by omega) (by rw [hxstaging]; exact hroom) hxhold
  have hscan : (x.lineEnd f).sco.state ≠ .ready := by rw [(steady_lineEnd x f).scanOut, hx.sco]; exact hready
  rw [settle_of_not_ready _ _ hscan] at hstep
  have hline : x.stagedLine f = s.stagedLine f := by
    rw [State.stagedLine, hxlines, hxbuffer]; rfl
  generalize x.lineEnd f = y at hlra hslot hkeep hstep
  obtain ⟨hstore, hrest, htail⟩ := settleMemory_of_live_tail y x.lra.staging (x.stagedLine f) (by rw [hlra]) hkeep
  generalize y.settleMemory = t at hstep hstore hrest htail
  rw [hlra] at hrest
  have hxlra := hx.lra
  refine ⟨t, hstep, (congrArg Lra.linesDone hrest).trans (congrArg (· + 1) hxlines), (congrArg Lra.groupIndex hrest :),
    (congrArg Lra.lineBuffer hrest :), (congrArg Lra.assembly hrest).trans ((congrArg Lra.assembly hxlra :).trans hrec), ?_,
    ?_⟩
  · rw [State.slot, hstore, ← hxlines]; exact hslot
  · rw [htail, hline]; rfl

/-! ## A refused FS (R32) -/

/-- An FS in GAP, out of SEARCH and IDLE, whose preface is refused. -/
theorem takeMark_refused (s : State) (w : LaneWord) (reason : Nat) (hc : wordCode w = 1) (hgap : s.lra.assembly = .gap)
    (hlock : s.lra.aligner = .locked) (hidle : s.relay.state ≠ .idle)
    (hr : s.lra.preface.refusal s.contract.pw s.contract.ph s.relay.input.depths = some reason) :
    s.takeMark w = some (s.clearRejoin.refuseFrame reason) := by
  have hnone : s.receiving = none := by rw [State.receiving, hgap]; rfl
  have hmark : s.takeMark w = s.frameStart w := by rw [State.takeMark, hc]; rfl
  have hkeep : s.cutAtBoundary.clearRejoin = s.clearRejoin := by rw [cutAtBoundary_of_none s hnone]
  have hr' : s.clearRejoin.lra.preface.refusal s.clearRejoin.contract.pw s.clearRejoin.contract.ph
      s.clearRejoin.relay.input.depths = some reason := hr
  rw [hmark, State.frameStart]
  dsimp only
  rw [hkeep, if_neg (show s.clearRejoin.lra.aligner ≠ .search by rw [show s.clearRejoin.lra.aligner = _ from hlock]; decide),
    if_neg (show s.clearRejoin.relay.state ≠ .idle from hidle), hr']

/-- What a refused FS leaves: the frame discarded, the condition set, the cause raised, the store as it was. -/
theorem refuseFrame_leaves (s : State) (reason : Nat) : (s.refuseFrame reason).lra.assembly = .discarding ∧
    (s.refuseFrame reason).relay.refused = true ∧ (s.refuseFrame reason).store = s.store ∧
    (s.refuseFrame reason).records = s.records ∧
    ∀ p, ((s.refuseFrame reason).port p).flags .formatRefused =
      ((s.port p).flags .formatRefused).enter (causeDetail reason 0) := by
  unfold State.refuseFrame
  generalize hu : ({ s.raise .formatRefused (causeDetail reason 0) with relay.refused := true } : State) = u
  have hoff := offRelay_reevaluate u
  have hcauses := causes_of_receiverSide (receiverSide_reevaluate u)
  have hstore := (kept_reevaluate u).1
  generalize u.reevaluate = v at hoff hcauses hstore
  subst hu
  refine ⟨rfl, (congrArg (fun x : State => x.relay.refused) hoff :), hstore, (congrArg State.records hoff :), fun p => ?_⟩
  have hp : (v.port p).flags .formatRefused = _ := congrArg (fun x : CauseFlags × CauseFlags × CauseFlags => x.2.2) (hcauses p)
  refine Eq.trans hp ?_
  show ((s.raise _ _).port p).flags .formatRefused = _
  rw [port_raise, flags_enter_same]

/-- Settles O13: the refused FS leaves the store, and so does the memory port while a scan is in progress. -/
theorem refusedFrameTouchesNoSlot : Obligations.RefusedFrameTouchesNoSlot := by
  intro e w reason s hlock hact hscan hgap hidle hr hw hk hc
  obtain ⟨x, hx, hexec⟩ := groupPeriod_mark e w s hlock hact hw hk
  have hxlra := hx.lra
  have hcontract : x.contract = s.contract := by rw [State.contract, hx.relay]; rfl
  have hstep := hexec _ (takeMark_refused x w reason hc ((congrArg Lra.assembly hxlra :).trans hgap)
    ((congrArg Lra.aligner hxlra :).trans hlock) (by rw [hx.relay]; exact hidle)
    (by rw [hcontract, hx.relay, show x.lra.preface = s.lra.preface from (congrArg Lra.preface hxlra :)]; exact hr))
  have hsco := (steady_refuseFrame x.clearRejoin reason).scanOut
  obtain ⟨hassembly, hrefused, hstore, hrecords, hflags⟩ := refuseFrame_leaves x.clearRejoin reason
  generalize x.clearRejoin.refuseFrame reason = y at hstep hsco hassembly hrefused hstore hrecords hflags
  have hoff := offMemory_settle_of_scanning y (s.arrive e) (by
    rw [hsco]
    show x.sco.state = _
    rw [hx.sco, hscan])
  generalize y.settle (s.arrive e) = t at hstep hoff
  have hcause : ∀ p, (t.port p).flags .formatRefused = ((s.port p).flags .formatRefused).enter (causeDetail reason 0) :=
    fun p => by rw [flags_of_offMemory hoff, hflags, ← hx.port]; rfl
  refine ⟨t, hstep, (congrArg (fun z : State => z.lra.assembly) hoff :).trans hassembly, ?_, ?_, ?_, fun p => ?_⟩
  · rw [relay_of_offMemory hoff, hrefused]
  · rw [store_of_offMemory hoff, hstore, ← hx.store]; rfl
  · rw [records_of_offMemory hoff, hrecords, ← hx.records]; rfl
  · rw [hcause p]; exact enter_raises _ _

end Sys2Proof.Machine
end


section
/-! A lane's line going static, and showing activity (R20). -/
namespace Sys2Proof.Machine

/-! ## What outlasts an event -/

/-- A pending LANE_FAULT stays with its detail (R166). -/
def FaultKept (s t : State) : Prop := ∀ p, ((s.port p).flags .laneFault).pending = true →
  ((t.port p).flags .laneFault).pending = true ∧
    ((t.port p).flags .laneFault).detail = ((s.port p).flags .laneFault).detail

theorem FaultKept.refl (s : State) : FaultKept s s := fun _ h => ⟨h, rfl⟩

theorem FaultKept.trans {s t u : State} (h : FaultKept s t) (k : FaultKept t u) : FaultKept s u := fun p hp => by
  obtain ⟨ht, hd⟩ := h p hp
  obtain ⟨hu, he⟩ := k p ht
  exact ⟨hu, he.trans hd⟩

theorem FaultKept.foldl {α : Type} (f : State → α → State) (h : ∀ s x, FaultKept s (f s x)) (xs : List α) (s : State) :
    FaultKept s (xs.foldl f s) := by
  induction xs generalizing s with
  | nil => exact .refl s
  | cons x xs ih => exact (h s x).trans (ih (f s x))

theorem faultKept_of_receiverSide {s t : State} (h : t.receiverSide = s.receiverSide) : FaultKept s t := fun p hp => by
  rw [laneFault_of_receiverSide h p]
  exact ⟨hp, rfl⟩

/-- A cause raised again keeps its detail. -/
theorem faultKept_raise (s : State) (c : Cause) (d : BitVec 16) : FaultKept s (s.raise c d) := fun p hp => by
  rw [port_raise]
  by_cases hc : Cause.laneFault = c
  · subst hc
    rw [flags_enter_same, CauseFlags.enter, if_pos hp]
    exact ⟨hp, rfl⟩
  · rw [flags_enter_other _ _ _ _ hc]
    exact ⟨hp, rfl⟩

theorem faultKept_laneFaulted (s : State) (l : Lane) : FaultKept s (s.laneFaulted l) := by
  have h : FaultKept s ((s.modLane l fun x => { x with state := .faulted }).stat
      fun c => { c with faults := bumpLane c.faults l }) := fun _ hp => ⟨hp, rfl⟩
  exact h.trans (faultKept_raise _ .laneFault _)

/-- A lane's state and activity-seen flag. -/
def LaneRec.standing (x : LaneRec) : LaneState × Bool := (x.state, x.activitySeen)

/-- From s to t a QUIET lane with its flag clear stays so, a pending LANE_FAULT stays with its detail, and with no input
apply waiting every lane keeps its state. -/
structure Outlasts (s t : State) : Prop where
  quiet : ∀ l, (s.lane l).standing = (.quiet, false) → (t.lane l).standing = (.quiet, false)
  fault : FaultKept s t
  states : s.relay.waitingInput = none → t.relay.waitingInput = none ∧ ∀ l, (t.lane l).state = (s.lane l).state

theorem Outlasts.trans {s t u : State} (h : Outlasts s t) (k : Outlasts t u) : Outlasts s u where
  quiet l hl := k.quiet l (h.quiet l hl)
  fault := h.fault.trans k.fault
  states hw := by
    obtain ⟨ht, hs⟩ := h.states hw
    obtain ⟨hu, hk⟩ := k.states ht
    exact ⟨hu, fun l => (hk l).trans (hs l)⟩

/-- Every lane's standing stays, and no input apply begins to wait. -/
theorem Outlasts.of_standing {s t : State} (hl : ∀ l, (t.lane l).standing = (s.lane l).standing) (hf : FaultKept s t)
    (hw : t.relay.waitingInput = s.relay.waitingInput) : Outlasts s t :=
  ⟨fun l h => (hl l).trans h, hf, fun h => ⟨hw.trans h, fun l => congrArg Prod.fst (hl l)⟩⟩

theorem Outlasts.refl (s : State) : Outlasts s s := .of_standing (fun _ => rfl) (.refl s) rfl

theorem outlasts_of_receiverSide {s t : State} (h : t.receiverSide = s.receiverSide) : Outlasts s t :=
  .of_standing (fun l => by rw [lane_of_receiverSide h]) (faultKept_of_receiverSide h) (waitingInput_of_receiverSide h)

theorem outlasts_raise (s : State) (c : Cause) (d : BitVec 16) : Outlasts s (s.raise c d) :=
  .of_standing (fun _ => rfl) (faultKept_raise s c d) rfl

theorem Outlasts.foldl {α : Type} (f : State → α → State) (h : ∀ s x, Outlasts s (f s x)) (xs : List α) (s : State) :
    Outlasts s (xs.foldl f s) := by
  induction xs generalizing s with
  | nil => exact .refl s
  | cons x xs ih => exact (h s x).trans (ih (f s x))

theorem outlasts_mapLanes (s : State) (f : LaneRec → LaneRec) (h : ∀ x, (f x).standing = x.standing) :
    Outlasts s (s.mapLanes f) :=
  .of_standing (fun l => by rw [lane_mapLanes, h]) (fun _ hp => ⟨hp, rfl⟩) rfl

theorem outlasts_cutReceived (s : State) : Outlasts s s.cutReceived := by
  have hr := receiverSide_cutReceived s
  have hcauses : ∀ p, (s.cutReceived.port p).flags .laneFault = (s.port p).flags .laneFault := fun p => by
    have hp : (s.cutReceived.port p).receiver = (s.port p).receiver := by
      rw [← causes_receiverSide, ← causes_receiverSide, hr]
    exact congrArg (fun x : _ × CauseFlags × _ => x.2.1) hp
  exact .of_standing (fun l => by rw [cutReceived_lane]) (fun p hp => by rw [hcauses]; exact ⟨hp, rfl⟩)
    (waitingInput_cutReceived s)

/-! ## The input apply and a lane lost -/

theorem lane_eachFree_laneFaulted (ls : List Lane) (s : State) (l : Lane) (h : l ∉ ls) :
    (s.eachFree ls State.laneFaulted).lane l = s.lane l := by
  have hfold : ∀ (xs : List Lane) (u : State), l ∉ xs → (xs.foldl State.laneFaulted u).lane l = u.lane l := fun xs => by
    induction xs with
    | nil => exact fun _ _ => rfl
    | cons x xs ih =>
      intro u hx
      rw [List.mem_cons, not_or] at hx
      obtain ⟨hne, hxs⟩ := hx
      rw [List.foldl_cons, ih _ hxs, lane_laneFaulted, if_neg hne]
  exact hfold _ _ fun hmem => h ((freeOrder_perm _ _).mem_iff.mp hmem)

/-- New limits fault only ACTIVE lanes. -/
theorem outlasts_installInput (s : State) : Outlasts s s.installInput.1 := by
  unfold State.installInput
  split
  · exact .refl s
  · rename_i c hw
    dsimp only
    generalize hs1 : ({ s with relay.input := c, relay.waitingInput := none } : State) = s1
    have hlane : ∀ l, (((s1.mapLanes (LaneRec.adjust c)).raise .contractApplied (causeDetail 1 0)).lane l).standing =
        (s.lane l).standing := fun l => by
      rw [lane_raise, lane_mapLanes, ← hs1]; rfl
    have hfault : FaultKept s ((s1.mapLanes (LaneRec.adjust c)).raise .contractApplied (causeDetail 1 0)) := by
      have h1 : FaultKept s (s1.mapLanes (LaneRec.adjust c)) := fun p hp => by rw [← hs1]; exact ⟨hp, rfl⟩
      exact h1.trans (faultKept_raise _ _ _)
    generalize (s1.mapLanes (LaneRec.adjust c)).raise .contractApplied (causeDetail 1 0) = u at hlane hfault
    refine ⟨fun l hl => ?_, hfault.trans ?_, fun h => absurd (h.symm.trans hw) nofun⟩
    · rw [lane_eachFree_laneFaulted, hlane, hl]
      intro hmem
      have hact := (List.mem_filter.mp hmem).2
      rw [LaneRec.faultsUnder, show (s.lane l).state = .quiet from congrArg Prod.fst hl] at hact
      exact nomatch hact
    · have h : FaultKept u { u with choices := (freeOrder u.choices
          (allLanes.filter fun l => (s.lane l).faultsUnder c)).2 } := fun _ hp => ⟨hp, rfl⟩
      exact h.trans (FaultKept.foldl State.laneFaulted faultKept_laneFaulted _ _)

theorem outlasts_loseLock (s : State) : Outlasts s s.loseLock := by
  have hkeep : ∀ x : LaneRec, x.keepOnSearch.clearRuns.standing = x.standing := fun x => by
    unfold LaneRec.keepOnSearch
    split <;> rfl
  have hmap := (outlasts_cutReceived s).trans
    (outlasts_mapLanes s.cutReceived (fun x => x.keepOnSearch.clearRuns) hkeep)
  have hbegun : Outlasts s (s.searchBegun LaneRec.keepOnSearch) :=
    hmap.trans (.of_standing (fun _ => rfl) (fun _ hp => ⟨hp, rfl⟩) rfl)
  have henter : Outlasts s (s.enterSearch LaneRec.keepOnSearch) := by
    rw [enterSearch_eq]
    refine Outlasts.trans ?_ (outlasts_of_receiverSide (receiverSide_reevaluate _))
    split
    · exact hbegun.trans (outlasts_installInput _)
    · exact hbegun
  exact henter.trans (outlasts_raise _ _ _)

theorem outlasts_laneLost (s : State) (l : Lane) : Outlasts s (s.laneLost l) := by
  unfold State.laneLost
  split
  · split
    · exact .of_standing (fun _ => rfl) (fun _ hp => ⟨hp, rfl⟩) rfl
    · exact outlasts_loseLock s
  · exact outlasts_loseLock s
  · exact .refl s

theorem outlasts_cutAtBoundary (s : State) : Outlasts s s.cutAtBoundary := by
  unfold State.cutAtBoundary
  split
  · exact (outlasts_cutReceived s).trans ((outlasts_installInput _).trans (Outlasts.foldl _ outlasts_laneLost _ _))
  · exact .refl s

theorem outlasts_settle (s before : State) : Outlasts s (s.settle before) := by
  cases follows_settle s before with
  | aside h => exact outlasts_of_receiverSide h.receiver
  | cut u _ _ hbefore hafter =>
    exact (outlasts_of_receiverSide hbefore.receiver).trans
      ((outlasts_cutAtBoundary u).trans (outlasts_of_receiverSide hafter.receiver))

/-! ## The events -/

/-- The lane QUIET with its flag clear, LANE_FAULT raised with reason QUIET. -/
def State.quieted (s : State) (l : Lane) : State :=
  (s.modLane l fun x => { x with state := .quiet, activitySeen := false, rejoinRun := 0 }).raiseLaneFault 2 l

theorem lane_quieted (s : State) (l m : Lane) : (s.quieted l).lane m =
    if m = l then { s.lane l with state := .quiet, activitySeen := false, rejoinRun := 0 } else s.lane m := by
  rw [State.quieted, State.raiseLaneFault, lane_raise]
  split
  · rename_i e; rw [e, lane_modLane_same]
  · rename_i e; rw [lane_modLane_other _ _ _ _ e]

/-- A line that goes static on a lane that is not QUIET. -/
theorem outlasts_goQuiet (s : State) (l : Lane) (h : (s.lane l).state ≠ .quiet) :
    Outlasts (s.quieted l) (s.goQuiet l) := by
  have hre : ∀ u : State, Outlasts u u.reevaluate := fun u => outlasts_of_receiverSide (receiverSide_reevaluate u)
  unfold State.goQuiet
  split
  · contradiction
  · exact (outlasts_laneLost (s.quieted l) l).trans (hre _)
  · exact hre (s.quieted l)

/-- Settles O15: what the line going static sets outlasts the rest of the event. -/
theorem laneLineEvents : Obligations.LaneLineEvents := by
  refine ⟨fun e l s hl => ?_, fun e l s hl hpanel => ?_, fun e l s => ⟨fun hl => ?_, fun hl => ?_⟩⟩
  · have h := (outlasts_goQuiet (s.arrive e) l (by rw [arrive_lane]; exact hl)).trans
      (outlasts_settle ((s.arrive e).goQuiet l) (s.arrive e))
    refine ⟨_, rfl, ?_⟩
    generalize State.settle _ (s.arrive e) = t at h
    have hquiet : (((s.arrive e).quieted l).lane l).standing = (.quiet, false) := by
      rw [lane_quieted, if_pos rfl]; rfl
    have hothers : ∀ m, m ≠ l → (((s.arrive e).quieted l).lane m).state = (s.lane m).state := fun m hm => by
      rw [lane_quieted, if_neg hm, arrive_lane]
    have hflags : ∀ p, (((s.arrive e).quieted l).port p).flags .laneFault =
        ((s.port p).flags .laneFault).enter (causeDetail 2 (laneCode l)) := fun p => by
      rw [State.quieted, State.raiseLaneFault, port_raise, flags_enter_same, ← arrive_port s e]; rfl
    have hstanding := h.quiet l hquiet
    refine ⟨congrArg Prod.fst hstanding, congrArg Prod.snd hstanding, fun hw m hm => ?_, fun p => ?_⟩
    · rw [(h.states ((congrArg Relay.waitingInput (arrive_relay s e)).trans hw)).2 m, hothers m hm]
    · obtain ⟨hp, hd⟩ := enter_raises ((s.port p).flags .laneFault) (causeDetail 2 (laneCode l))
      rw [← hflags] at hp hd
      obtain ⟨hp', hd'⟩ := h.fault p hp
      exact ⟨hp', fun hno => hd'.trans (hd hno)⟩
  · have hgo : (s.arrive e).goQuiet l =
        (s.arrive e).modLane l fun x => { x with activitySeen := false, rejoinRun := 0 } := by
      rw [State.goQuiet, arrive_lane, hl]
    have h := aside_settle ((s.arrive e).goQuiet l) (s.arrive e) (.inl (by
      rw [hgo]; exact (congrArg Relay.waitingPanel (arrive_relay s e)).trans hpanel))
    refine ⟨_, rfl, ?_⟩
    generalize State.settle _ (s.arrive e) = t at h
    rw [hgo] at h
    have ha := alignment_of_receiverSide h.receiver
    refine ⟨?_, fun m hm => ?_, ?_, fun p => ?_⟩
    · rw [lane_of_alignment ha, lane_modLane_same, arrive_lane]
    · rw [lane_of_alignment ha, lane_modLane_other _ _ _ _ hm, arrive_lane]
    · rw [aligner_of_alignment ha, modLane_lra_aligner, arrive_lra]
    · rw [laneFault_of_receiverSide h.receiver, ← arrive_port s e]; rfl
  · show Host.Outcome.next ((s.arrive e).seeActivity l) = _
    rw [State.seeActivity, if_pos (by rw [arrive_lane]; exact hl)]
  · show Host.Outcome.next ((s.arrive e).seeActivity l) = _
    rw [State.seeActivity, if_neg (by rw [arrive_lane]; exact hl)]

end Sys2Proof.Machine
end


section
/-! REALIGN, LANE_TEST_ON and LANE_TEST_OFF (R27, R40, R42, R56). -/
namespace Sys2Proof.Machine

/-! ## The entry into SEARCH with no input apply waiting -/

theorem enterSearch_of_none (s : State) (onLane : LaneRec → LaneRec) (h : s.relay.waitingInput = none) :
    s.enterSearch onLane = (s.searchBegun onLane).reevaluate := by
  have hwait : (s.searchBegun onLane).relay.waitingInput = none := (waitingInput_cutReceived s).trans h
  have hinstall : (s.searchBegun onLane).installInput.1 = s.searchBegun onLane := by
    simp only [State.installInput, hwait]
  rw [enterSearch_eq, hinstall, ite_self]

/-- An entry into SEARCH, with no input apply waiting: each lane by `onLane` with mark and rejoin run cleared, the run 0,
the assembly in GAP; no cause and no statistic of the receiver. -/
theorem receiverSide_enterSearch (s : State) (onLane : LaneRec → LaneRec) (h : s.relay.waitingInput = none) :
    (s.enterSearch onLane).receiverSide = { s.receiverSide with lra := { s.lra with
      lanes := s.lra.lanes.map fun x => (onLane x).clearRuns
      staging := [], aligner := .search, searchRun := 0, assembly := .gap, frame := none, lineBuffer := [] } } := by
  have hbegun : (s.searchBegun onLane).receiverSide = { s.receiverSide with lra := { s.lra with
      lanes := s.lra.lanes.map fun x => (onLane x).clearRuns
      staging := [], aligner := .search, searchRun := 0, assembly := .gap, frame := none, lineBuffer := [] } } :=
    (congrArg (fun x : ReceiverSide => { x with lra := { x.lra with
      lanes := x.lra.lanes.map fun y => (onLane y).clearRuns, aligner := .search, searchRun := 0 } })
      (receiverSide_cutReceived s) :)
  rw [enterSearch_of_none s onLane h, receiverSide_reevaluate, hbegun]

/-- A request of the right's holder, on a port with no transaction open. -/
theorem exec_inputRequest (e : Env) (p : Port) (data : List Byte) (s : State) (act : State → State × Status)
    (htxn : (s.port p).txn = none) (hr : s.hasRight p .input = true) :
    (s.openPort e p).request p .input data act =
      (act (s.arrive e)).1.endTxn p (act (s.arrive e)).2 (zeros data.length) := by
  rw [openPort_of_no_txn _ _ _ htxn, request_granted _ _ _ _ _ ((arrive_hasRight s e p .input).trans hr)]

theorem receiverSide_arrive (s : State) (e : Env) : (s.arrive e).receiverSide = s.receiverSide := by
  simp only [State.receiverSide, arrive_lra, arrive_relay, arrive_records, arrive_peu]

theorem lane_of_lanes {t : State} {lanes : PerLane LaneRec} {f : LaneRec → LaneRec} (h : t.lra.lanes = lanes.map f)
    (l : Lane) : t.lane l = f (lanes.get l) := by
  rw [State.lane, h, PerLane.get_map]

/-! ## A cut slot (R56) -/

theorem entry_unmarkReady (r : Slot) (i j : Nat) : (r.unmarkReady j).entry i = r.entry i := by
  unfold Slot.unmarkReady
  split <;> rfl

theorem entry_damage (r : Slot) (i j : Nat) (h : j < 270) : (r.damage j).entry i =
    if i = j then { r.entry j with state := .damaged, discarded := true } else r.entry i := by
  rw [Slot.damage, entry_setEntry _ _ _ _ h, entry_unmarkReady]

/-- A read of one entry leaves the others. -/
theorem entry_checkEntry_other (s : State) (k : Fin 5) (i j : Nat) (hj : j < 270) (h : i ≠ j) :
    ((s.checkEntry k j).slot k).entry i = (s.slot k).entry i := by
  unfold State.checkEntry
  split
  · rfl
  · show ((s.modSlot k fun r => r.setEntry j { r.entry j with check := .good }).slot k).entry i = _
    rw [slot_modSlot_same, entry_setEntry _ _ _ _ hj, if_neg h]
  · generalize hu : (s.modSlot k fun r => (r.unmarkReady j).setEntry j SliceEntry.rewritten).raise
        .sliceTableUncorrectable 0 = u
    have hentry : (u.slot k).entry i = (s.slot k).entry i := by
      rw [← hu]
      show ((s.modSlot k fun r => (r.unmarkReady j).setEntry j SliceEntry.rewritten).slot k).entry i = _
      rw [slot_modSlot_same, entry_setEntry _ _ _ _ hj, if_neg h, entry_unmarkReady]
    rcases slot_completeIfResolved u k k with e | ⟨_, d, e⟩ <;> rw [e] <;> exact hentry

/-- What the cut of slices leaves of a SHORT slot: each of them DAMAGED with its flag, the other entries as they were. -/
structure SlicesCut (xs : List Nat) (r t : Slot) : Prop where
  state : t.state = .short
  frame : t.frame = r.frame
  damaged : ∀ i ∈ xs, (t.entry i).state = .damaged ∧ (t.entry i).discarded = true
  other : ∀ i, i ∉ xs → t.entry i = r.entry i

theorem slicesCut_cutSlice (s : State) (k : Fin 5) (j : Nat) (hj : j < 270) (hs : (s.slot k).state = .short) :
    SlicesCut [j] (s.slot k) ((s.cutSlice k j).slot k) := by
  obtain ⟨hframe, hstate⟩ := frame_checkEntry s k j k
  have hshort : ((s.checkEntry k j).slot k).state = .short := by
    rcases hstate with e | ⟨hd, _⟩
    · rw [e, hs]
    · rw [hs] at hd; exact nomatch hd
  have hother := fun i hi => entry_checkEntry_other s k i j hj hi
  have hcut : (State.cutSlice k s j).slot k = ((s.checkEntry k j).slot k).damage j := slot_modSlot_same _ _ _
  rw [hcut]
  generalize (s.checkEntry k j).slot k = r at hframe hshort hother
  obtain ⟨hf, hst⟩ := frame_unmarkReady r j
  refine ⟨hst.trans hshort, hf.trans hframe, fun i hi => ?_, fun i hi => ?_⟩
  · rw [entry_damage _ _ _ hj, if_pos (List.mem_singleton.mp hi)]
    exact ⟨rfl, rfl⟩
  · rw [List.mem_singleton] at hi
    rw [entry_damage _ _ _ hj, if_neg hi, hother i hi]

theorem slicesCut_foldl (k : Fin 5) (xs : List Nat) (s : State) (hx : ∀ j ∈ xs, j < 270) (hs : (s.slot k).state = .short) :
    SlicesCut xs (s.slot k) ((xs.foldl (State.cutSlice k) s).slot k) := by
  induction xs generalizing s with
  | nil => exact ⟨hs, rfl, fun _ h => (List.not_mem_nil h).elim, fun _ _ => rfl⟩
  | cons x xs ih =>
    have h1 := slicesCut_cutSlice s k x (hx x List.mem_cons_self) hs
    have h2 := ih (State.cutSlice k s x) (fun j hj => hx j (List.mem_cons_of_mem x hj)) h1.state
    refine ⟨h2.state, h2.frame.trans h1.frame, fun i hi => ?_, fun i hi => ?_⟩
    · by_cases hmem : i ∈ xs
      · exact h2.damaged i hmem
      · obtain rfl : i = x := (List.mem_cons.mp hi).resolve_right hmem
        rw [List.foldl_cons, h2.other i hmem]
        exact h1.damaged i (List.mem_singleton_self i)
    · rw [List.mem_cons, not_or] at hi
      rw [List.foldl_cons, h2.other i hi.2]
      exact h1.other i fun h => hi.1 (List.mem_singleton.mp h)

/-- A cut at line L: the slot SHORT with L lines received, the slices that hold a line numbered L or above DAMAGED. -/
theorem slot_cutSlot (s : State) (k : Fin 5) (linesDone : Nat) (r : Slot) (hr : s.slot k = r) (h : r.slices ≤ 270) :
    ((s.cutSlot k linesDone).slot k).state = .short ∧ ((s.cutSlot k linesDone).slot k).linesReceived = linesDone ∧
      ∀ j, j < r.slices →
        (linesDone < j * r.sliceHeight + r.capacity j →
          (((s.cutSlot k linesDone).slot k).entry j).state = .damaged ∧
            (((s.cutSlot k linesDone).slot k).entry j).discarded = true) ∧
        (j * r.sliceHeight + r.capacity j ≤ linesDone → ((s.cutSlot k linesDone).slot k).entry j = r.entry j) := by
  unfold State.cutSlot
  extract_lets s1
  have h1 : s1.slot k = { r with state := .short, linesReceived := linesDone } := by
    rw [← hr]; exact slot_modSlot_same _ _ _
  have hmem : ∀ j, j ∈ (s1.slot k).unreachable linesDone ↔ j < r.slices ∧ linesDone < j * r.sliceHeight + r.capacity j :=
    fun j => by
      rw [h1]
      simp only [Slot.unreachable, List.mem_filter, List.mem_range, decide_eq_true_eq]
      rfl
  have hcut := slicesCut_foldl k ((s1.slot k).unreachable linesDone) s1
    (fun j hj => ((hmem j).mp hj).1.trans_le h) (by rw [h1])
  rw [h1] at hcut
  refine ⟨by rw [h1]; exact hcut.state, ?_, fun j hj => ⟨fun hlost => ?_, fun hkept => ?_⟩⟩
  · rw [h1]; exact congrArg (fun x : Stamp × Nat × _ => x.2.1) hcut.frame
  · rw [h1] at hmem ⊢
    exact hcut.damaged j ((hmem j).mpr ⟨hj, hlost⟩)
  · rw [h1] at hmem ⊢
    exact hcut.other j fun hin => absurd ((hmem j).mp hin).2 (by omega)

/-! ## REALIGN -/

theorem exec_realign (e : Env) (p : Port) (data : List Byte) (s : State) (htxn : (s.port p).txn = none)
    (hr : s.hasRight p .input = true) : exec (.realign e ⟨p, data⟩) s =
      .next ((((s.arrive e).enterSearch LaneRec.activate).settle (s.arrive e)).endTxn p .ok (zeros data.length)) := by
  show Host.Outcome.next ((s.openPort e p).request p .input data State.requestRealign) = _
  rw [exec_inputRequest e p data s _ htxn hr, State.requestRealign]

theorem flags_endTxn (s : State) (p q : Port) (st : Status) (data : List Byte) :
    ((s.endTxn p st data).port q).flags = (s.port q).flags := (kept_port_endTxn s p q st data).2.2

/-- A frame being received when SEARCH is entered is cut in its slot. -/
theorem store_enterSearch (s : State) (onLane : LaneRec → LaneRec) (f : RxFrame) (hf : s.receiving = some f)
    (h : s.relay.waitingInput = none) : (s.enterSearch onLane).store = (s.cutSlot f.slot s.lra.linesDone).store := by
  rw [enterSearch_of_none s onLane h, (kept_reevaluate _).1]
  show s.cutReceived.store = _
  rw [State.cutReceived, hf]

/-- Settles O47: the entry into SEARCH, which what follows the event leaves. -/
theorem realignRestartsTheSearch : Obligations.RealignRestartsTheSearch := by
  refine ⟨fun e p data s htxn hr hw => ?_, fun e p data f s htxn hr hw hscan hrec hf hslices => ?_⟩
  · have hexec := exec_realign e p data s htxn hr
    have hside := receiverSide_enterSearch (s.arrive e) LaneRec.activate
      ((congrArg Relay.waitingInput (arrive_relay s e)).trans hw)
    rw [receiverSide_arrive, arrive_lra] at hside
    have h := (aside_settle _ (s.arrive e) (.inr (receiving_of_search (search_enterSearch (s.arrive e)
      LaneRec.activate)))).receiver.trans hside
    generalize ((s.arrive e).enterSearch LaneRec.activate).settle (s.arrive e) = u at hexec h
    have hlanes : u.lra.lanes = s.lra.lanes.map fun x => x.activate.clearRuns :=
      (congrArg (fun x : ReceiverSide => x.lra.lanes) h :)
    have hlane : ∀ l, u.lane l = (s.lane l).activate.clearRuns := lane_of_lanes hlanes
    have hcauses : ∀ q, (u.port q).flags .lockLost = (s.port q).flags .lockLost := fun q => by
      have hq : (u.port q).receiver = (s.port q).receiver := by
        rw [← causes_receiverSide, ← causes_receiverSide, h]
      exact congrArg Prod.fst hq
    refine ⟨_, hexec, prevStatus_endTxn _ _ _ _, ?_, ?_, ?_, ?_, ?_, fun l => ?_, fun q => ?_⟩
    · exact (congrArg (fun x : ReceiverSide => x.lra.aligner) h :)
    · exact (congrArg (fun x : ReceiverSide => x.lra.searchRun) h :)
    · exact (congrArg (fun x : ReceiverSide => x.lra.assembly) h :)
    · exact (congrArg (fun x : ReceiverSide => x.lra.preface) h :)
    · exact (congrArg (fun x : ReceiverSide => x.lra.testOn) h :)
    · show (u.lane l).state = _ ∧ (u.lane l).missCount = _ ∧ (u.lane l).skewCount = _ ∧ (u.lane l).mark = _ ∧
        (u.lane l).rejoinRun = _
      rw [hlane]
      exact ⟨rfl, rfl, rfl, rfl, rfl⟩
    · rw [flags_endTxn, hcauses]
  · have hexec := exec_realign e p data s htxn hr
    have hwait : (s.arrive e).relay.waitingInput = none := (congrArg Relay.waitingInput (arrive_relay s e)).trans hw
    have hreceiving : (s.arrive e).receiving = some f := by
      rw [State.receiving, arrive_lra, if_pos hrec, hf]
    have hstore := store_enterSearch (s.arrive e) LaneRec.activate f hreceiving hwait
    have hside := receiverSide_enterSearch (s.arrive e) LaneRec.activate hwait
    have hoff := offMemory_settle_of_scanning ((s.arrive e).enterSearch LaneRec.activate) (s.arrive e) (by
      rw [(steady_enterSearch _ _).scanOut, arrive_sco, hscan])
    generalize (s.arrive e).enterSearch LaneRec.activate = v at hexec hstore hside hoff
    generalize v.settle (s.arrive e) = u at hexec hoff
    have hslot : u.slot f.slot = ((s.arrive e).cutSlot f.slot s.lra.linesDone).slot f.slot := by
      rw [slot_of_offMemory hoff, State.slot, hstore, arrive_lra]; rfl
    obtain ⟨hshort, hlines, hslice⟩ := slot_cutSlot (s.arrive e) f.slot s.lra.linesDone _ rfl
      (by rw [arrive_slot_slices]; exact hslices)
    rw [← hslot] at hshort hlines hslice
    have hcapacity : ∀ j, ((s.arrive e).slot f.slot).capacity j = (s.slot f.slot).capacity j := fun j => by
      rw [Slot.capacity, arrive_slot_sliceHeight, arrive_slot_height]; rfl
    rw [arrive_slot_slices] at hslice
    simp only [arrive_slot_sliceHeight, hcapacity] at hslice
    refine ⟨_, hexec, hshort, hlines, ?_, ?_, hslice⟩
    · exact Eq.trans (congrArg (fun x : State => x.lra.frame) hoff :) (congrArg (fun x : ReceiverSide => x.lra.frame) hside :)
    · exact Eq.trans (congrArg (fun x : State => x.lra.lineBuffer) hoff :)
        (congrArg (fun x : ReceiverSide => x.lra.lineBuffer) hside :)

/-! ## The lane test (R40, R42) -/

theorem exec_laneTestOn (e : Env) (p : Port) (data : List Byte) (s : State) (htxn : (s.port p).txn = none)
    (hr : s.hasRight p .input = true) : exec (.laneTestOn e ⟨p, data⟩) s =
      .next ((s.arrive e).requestTestOn.1.endTxn p .ok (zeros data.length)) := by
  show Host.Outcome.next ((s.openPort e p).request p .input data State.requestTestOn) = _
  rw [exec_inputRequest e p data s _ htxn hr, State.requestTestOn]

theorem exec_laneTestOff (e : Env) (p : Port) (data : List Byte) (s : State) (htxn : (s.port p).txn = none)
    (hr : s.hasRight p .input = true) : exec (.laneTestOff e ⟨p, data⟩) s =
      .next ((s.arrive e).requestTestOff.1.endTxn p .ok (zeros data.length)) := by
  show Host.Outcome.next ((s.openPort e p).request p .input data State.requestTestOff) = _
  rw [exec_inputRequest e p data s _ htxn hr, State.requestTestOff]

/-- The lane test begun: SEARCH entered, the results cleared, the flag set. -/
def State.testBegun (s : State) : State :=
  { (s.enterSearch LaneRec.activate).mapLanes LaneRec.startTest with lra.testOn := true }

theorem requestTestOn_eq (s : State) : s.requestTestOn.1 = s.testBegun.reevaluate.settle s := by
  dsimp only [State.requestTestOn, State.testBegun]

/-- The lane test ended: the run restarted, the flag cleared. -/
def State.testEnded (s : State) : State := { s.restartSearch with lra.testOn := false }

theorem testEnded_leaves (s : State) : s.testEnded.lra.testOn = false ∧ s.testEnded.lra.searchRun = 0 ∧
    s.testEnded.lra.aligner = s.lra.aligner ∧ s.testEnded.store = s.store ∧
    ∀ l, s.testEnded.lane l = { s.lane l with mark := false } :=
  ⟨rfl, rfl, rfl, rfl, lane_restartSearch s⟩

/-- While the lane test is on, the relay is IDLE before the first panel contract and in BORDER after it (R1, R2). -/
theorem relayState_of_test (s : State) (h : s.lra.testOn = true) :
    s.reevaluate.relay.state = (if s.relay.panel = none then .idle else .border) ∧
      (s.relay.panel ≠ none → s.reevaluate.relay.reason = .laneTest) := by
  obtain ⟨hstate, hreason⟩ := relay_state_reevaluate s
  have hcond : s.borderCondition = .laneTest := if_pos h
  have hproper : s.properRelayState = if s.relay.panel = none then .idle else .border := by
    rw [State.properRelayState, hcond]; rfl
  refine ⟨hstate.trans hproper, fun hp => ?_⟩
  rw [hreason, State.properReason, hproper, if_neg hp, if_pos rfl, hcond]

/-- Settles O48: the start is an entry into SEARCH, the end a restart of the run with the results kept. -/
theorem laneTestStartsAndStops : Obligations.LaneTestStartsAndStops := by
  refine ⟨fun e p data s htxn hr hw => ?_, fun e p data s htxn hr => ⟨fun ht => ?_, fun ht => ?_⟩⟩
  · have hexec := exec_laneTestOn e p data s htxn hr
    rw [requestTestOn_eq] at hexec
    have henter := receiverSide_enterSearch (s.arrive e) LaneRec.activate
      ((congrArg Relay.waitingInput (arrive_relay s e)).trans hw)
    rw [receiverSide_arrive, arrive_lra] at henter
    have hpanel : (s.arrive e).testBegun.relay.panel = s.relay.panel :=
      (steady_enterSearch LaneRec.activate (s.arrive e)).panel.trans (congrArg Relay.panel (arrive_relay s e))
    have hbegun : (s.arrive e).testBegun.receiverSide = { s.receiverSide with lra := { s.lra with
        lanes := (s.lra.lanes.map fun x => x.activate.clearRuns).map LaneRec.startTest
        staging := [], aligner := .search, searchRun := 0, assembly := .gap, frame := none, lineBuffer := []
        testOn := true } } :=
      (congrArg (fun x : ReceiverSide => { x with lra := { x.lra with
        lanes := x.lra.lanes.map LaneRec.startTest, testOn := true } }) henter :)
    generalize (s.arrive e).testBegun = v at hexec hpanel hbegun
    have hre := (receiverSide_reevaluate v).trans hbegun
    obtain ⟨hstate, hreason⟩ := relayState_of_test v (congrArg (fun x : ReceiverSide => x.lra.testOn) hbegun :)
    have h := aside_settle v.reevaluate (s.arrive e) (.inr (by
      rw [State.receiving, show v.reevaluate.lra.assembly = .gap from
        (congrArg (fun x : ReceiverSide => x.lra.assembly) hre :)]
      rfl))
    generalize v.reevaluate.settle (s.arrive e) = u at hexec h
    have hside := h.receiver.trans hre
    rw [hpanel] at hstate hreason
    have hlanes : u.lra.lanes = (s.lra.lanes.map fun x => x.activate.clearRuns).map LaneRec.startTest :=
      (congrArg (fun x : ReceiverSide => x.lra.lanes) hside :)
    have hlane : ∀ l, u.lane l = (s.lane l).activate.clearRuns.startTest := fun l =>
      (lane_of_lanes hlanes l).trans (congrArg LaneRec.startTest (PerLane.get_map _ _ l))
    refine ⟨_, hexec, prevStatus_endTxn _ _ _ _, ?_, ?_, ?_, fun l => ?_, fun hp => ⟨?_, ?_⟩, fun hp _ => ?_⟩
    · exact (congrArg (fun x : ReceiverSide => x.lra.testOn) hside :)
    · exact (congrArg (fun x : ReceiverSide => x.lra.aligner) hside :)
    · exact (congrArg (fun x : ReceiverSide => x.lra.assembly) hside :)
    · show (u.lane l).state = _ ∧ (u.lane l).missCount = _ ∧ (u.lane l).skewCount = _ ∧ (u.lane l).testSeen = _ ∧
        (u.lane l).testError = _ ∧ (u.lane l).testErrorCount = _ ∧ (u.lane l).generator = _
      rw [hlane]
      exact ⟨rfl, rfl, rfl, rfl, rfl, rfl, rfl⟩
    · rw [endTxn_relay, h.relay.1, hstate, if_neg hp]
    · rw [endTxn_relay, h.relay.2, hreason hp]
    · rw [endTxn_relay, h.relay.1, hstate, if_pos hp]
  · have hoff : (s.arrive e).requestTestOff.1 = s.arrive e := if_neg (by rw [arrive_lra, ht]; decide)
    rw [exec_laneTestOff e p data s htxn hr, hoff]
  · have hexec := exec_laneTestOff e p data s htxn hr
    have hon : (s.arrive e).requestTestOff.1 = (s.arrive e).testEnded.reevaluate :=
      if_pos (by rw [arrive_lra]; exact ht)
    rw [hon] at hexec
    obtain ⟨htest, hrun, haligner, hkept, hlane⟩ := testEnded_leaves (s.arrive e)
    rw [arrive_lra] at haligner
    generalize (s.arrive e).testEnded = v at hexec htest hrun haligner hkept hlane
    have hside := receiverSide_reevaluate v
    have hstore := (kept_reevaluate v).1
    generalize v.reevaluate = u at hexec hside hstore
    have halign := alignment_of_receiverSide hside
    refine ⟨_, hexec, prevStatus_endTxn _ _ _ _, ?_, ?_, (aligner_of_alignment halign).trans haligner, fun l => ?_, ?_⟩
    · exact (congrArg (fun x : ReceiverSide => x.lra.testOn) hside :).trans htest
    · exact (congrArg (fun x : ReceiverSide => x.lra.searchRun) hside :).trans hrun
    · show (u.lane l).testSeen = _ ∧ (u.lane l).testError = _ ∧ (u.lane l).testErrorCount = _
      rw [lane_of_alignment halign, hlane, arrive_lane]
      exact ⟨rfl, rfl, rfl⟩
    · rw [endTxn_store, hstore, hkept]

end Sys2Proof.Machine
end


section
/-! The memory's entry into self-refresh with retention, and its exit deadline (R69, R130, R131, R141). -/
namespace Sys2Proof.Machine

/-! ## A record appended (R153) -/

/-- The state but for what raising a cause, in an order the part chooses, changes. -/
def State.offCauses (s : State) : State :=
  { s with choices := 0, peu.ports := { system := PortCtl.reset, link := PortCtl.reset } }

/-- The record in the ring and the slot marked as recorded, before RECORDS_WAITING is raised. -/
def State.recordPushed (s : State) (k : Fin 5) (superseded : Bool) (scan : Option NewScanPart) : State :=
  State.modSlot { s with records := s.records.push (frameRecord k (s.slot k) superseded scan) } k fun r =>
    { r with recorded := true }

theorem offCauses_appendRecord (s : State) (k : Fin 5) (superseded : Bool) (scan : Option NewScanPart) :
    (s.appendRecord k superseded scan).offCauses = (s.recordPushed k superseded scan).offCauses := by
  rw [State.appendRecord, State.eachFree, foldl_keeps State.offCauses State.raiseRecordsWaiting fun _ _ => rfl]
  rfl

theorem slot_of_offCauses {s t : State} (h : t.offCauses = s.offCauses) (k : Fin 5) : t.slot k = s.slot k :=
  (congrArg (fun u : State => u.slot k) h :)

theorem mpt_of_offCauses {s t : State} (h : t.offCauses = s.offCauses) : t.mpt = s.mpt := (congrArg State.mpt h :)

/-! ## Retention (R69) -/

theorem mpt_recordIfUnrecorded (s : State) (k : Fin 5) : (s.recordIfUnrecorded k).mpt = s.mpt := by
  unfold State.recordIfUnrecorded
  split
  · rfl
  · exact (mpt_of_offCauses (offCauses_appendRecord s k false none) :)

theorem slot_recordIfUnrecorded_other (s : State) (k j : Fin 5) (h : j ≠ k) :
    (s.recordIfUnrecorded k).slot j = s.slot j := by
  unfold State.recordIfUnrecorded
  split
  · rfl
  · exact (slot_of_offCauses (offCauses_appendRecord s k false none) j).trans (slot_modSlot_other _ k j _ h)

theorem mpt_reevalRepeat (s : State) : s.reevalRepeat.mpt = s.mpt := by
  unfold State.reevalRepeat State.reevalRepeatDuring
  split
  · split <;> rfl
  · rfl

theorem mpt_freeSlot (s : State) (k : Fin 5) : (s.freeSlot k).mpt = s.mpt := by
  unfold State.freeSlot
  rw [mpt_reevalRepeat]
  dsimp only
  split <;> rfl

theorem slot_freeSlot (s : State) (k j : Fin 5) : (s.freeSlot k).slot j = if j = k then Slot.reset else s.slot j := by
  have hstore : (s.freeSlot k).store = (s.modSlot k fun _ => Slot.reset).store := by
    unfold State.freeSlot
    rw [store_reevalRepeat]
    dsimp only
    split <;> rfl
  rw [State.slot, hstore]
  split
  · subst j
    exact slot_modSlot_same s k _
  · exact slot_modSlot_other s k j _ ‹_›

theorem slot_freeSlots (ks : List (Fin 5)) (s : State) (j : Fin 5) :
    (ks.foldl State.freeSlot s).slot j = if j ∈ ks then Slot.reset else s.slot j := by
  induction ks generalizing s with
  | nil => simp
  | cons k ks ih =>
    rw [List.foldl_cons, ih, slot_freeSlot]
    by_cases hk : j = k <;> simp [hk]

/-- The records that an event appends, in whatever order, touch only the slots they are of. -/
theorem slot_recordSlots (ks : List (Fin 5)) (s : State) (j : Fin 5) (h : j ∉ ks) :
    (s.eachFree ks State.recordIfUnrecorded).slot j = s.slot j := by
  have hfold : ∀ (ls : List (Fin 5)) (u : State), j ∉ ls → (ls.foldl State.recordIfUnrecorded u).slot j = u.slot j := by
    intro ls
    induction ls with
    | nil => exact fun _ _ => rfl
    | cons l ls ih =>
      intro u hj
      obtain ⟨hl, hls⟩ := not_or.mp (List.mem_cons.not.mp hj)
      rw [List.foldl_cons, ih _ hls, slot_recordIfUnrecorded_other _ _ _ hl]
  rw [State.eachFree, hfold _ _ fun hj => h ((freeOrder_perm _ ks).mem_iff.mp hj)]
  rfl

/-- Retention clears the slots it frees and leaves every other slot as it is. -/
theorem slot_retain (s : State) (k : Fin 5) : s.retain.slot k = if k ∈ s.unretained then Slot.reset else s.slot k := by
  rw [State.retain, slot_freeSlots]
  split
  · rfl
  · exact slot_recordSlots _ s k fun hk => ‹k ∉ s.unretained› (List.mem_filter.mp hk).1

theorem mpt_retain (s : State) : s.retain.mpt = s.mpt := by
  rw [State.retain, foldl_keeps State.mpt State.freeSlot mpt_freeSlot, State.eachFree,
    foldl_keeps State.mpt State.recordIfUnrecorded mpt_recordIfUnrecorded]

theorem mem_unretained (s : State) (k : Fin 5) : k ∈ s.unretained ↔ k.val < s.store.usable ∧
    (s.slot k).state ≠ .free ∧ s.pacing.repeatSource ≠ some k ∧ (s.slot k).unpinned := by
  simp only [State.unretained, State.usableSlots, List.mem_filter, List.mem_finRange, true_and, unpinned_iff,
    Bool.and_eq_true, decide_eq_true_eq, Bool.not_eq_true', and_assoc]

/-! ## The entry (R130) -/

theorem mayRest_iff (s : State) : s.mayRest = true ↔ s.sco.state = .holding ∧ s.mpt.power = .active ∧
    s.lra.staging = [] ∧ s.mpt.capture.system = none ∧ s.mpt.capture.link = none ∧ s.mpt.transfer = none := by
  simp only [State.mayRest, Bool.and_eq_true, decide_eq_true_eq, and_assoc]

theorem mayRest_arrive (s : State) (e : Env) : (s.arrive e).mayRest = s.mayRest := by
  simp [State.mayRest]

/-- With nothing staged no line is dropped. -/
theorem dropDeadHeads_of_empty (s : State) (h : s.lra.staging = []) : s.dropDeadHeads = s := by
  unfold State.dropDeadHeads
  split
  · rfl
  · rw [h, List.dropWhile_nil, ← h]

theorem arbitrate_of_not_active (s : State) (h : s.mpt.power ≠ .active) : s.arbitrate = s := if_neg fun hc => h hc.1

theorem checkRest_of_not_active (s : State) (h : s.mpt.power ≠ .active) : s.checkRest = s :=
  if_neg fun hr => h ((mayRest_iff s).mp hr).2.1

theorem mpt_enterSelfRefresh (s : State) :
    s.enterSelfRefresh.mpt = { s.mpt with power := .selfRefresh, owed := 0, timerRunning := false } := mpt_retain _

/-- A memory that may rest does so, and nothing is granted after it. -/
theorem settleMemory_of_mayRest (s : State) (h : s.mayRest = true) : s.settleMemory = s.enterSelfRefresh := by
  have hpower : s.enterSelfRefresh.mpt.power ≠ .active := by rw [mpt_enterSelfRefresh]; exact nofun
  have hstaging : s.lra.staging = [] := by
    obtain ⟨-, -, hstaging, -⟩ := (mayRest_iff s).mp h
    exact hstaging
  have hrest : s.checkRest = s.enterSelfRefresh := if_pos h
  rw [State.settleMemory, dropDeadHeads_of_empty s hstaging, hrest, arbitrate_of_not_active _ hpower,
    checkRest_of_not_active _ hpower]

/-- A slot with the repeat source or a pinned frame keeps it at the entry. -/
theorem slot_enterSelfRefresh_of_kept (s : State) (k : Fin 5)
    (h : s.pacing.repeatSource = some k ∨ ¬ (s.slot k).unpinned) : s.enterSelfRefresh.slot k = s.slot k := by
  refine (slot_retain _ k).trans (if_neg fun hk => ?_)
  obtain ⟨-, -, hsource, hpin⟩ := (mem_unretained _ k).mp hk
  exact h.elim hsource fun hp => hp hpin

/-- Any other usable slot is FREE after the entry. -/
theorem state_enterSelfRefresh_of_unkept (s : State) (k : Fin 5) (hk : k.val < s.store.usable)
    (hsource : s.pacing.repeatSource ≠ some k) (hpin : (s.slot k).unpinned) :
    (s.enterSelfRefresh.slot k).state = .free := by
  rw [show s.enterSelfRefresh.slot k = _ from slot_retain _ k]
  split
  · rfl
  · by_contra hfree
    exact ‹k ∉ _› ((mem_unretained _ k).mpr ⟨hk, hfree, hsource, hpin⟩)

/-! ## The exit deadline (R131, R141) -/

/-- What a grant of the arbiter leaves of the memory port. -/
def MemPort.standing (m : MemPort) : PowerState × Option Deadline × Nat × Bool × Memory :=
  (m.power, m.exitDeadline, m.owed, m.timerRunning, m.frameMemory)

theorem grantCapture_keeps (s : State) (p : Port) : (s.grantCapture p).mpt.standing = s.mpt.standing ∧
    (s.grantCapture p).mpt.scanReads = s.mpt.scanReads := by
  unfold State.grantCapture
  split
  · exact ⟨rfl, rfl⟩
  · dsimp only
    split <;> exact ⟨rfl, rfl⟩

theorem standing_grantOnce (s : State) : s.grantOnce.mpt.standing = s.mpt.standing := by
  unfold State.grantOnce
  split
  · rfl
  · split
    · rfl
    · split
      · rfl
      · split
        · rfl
        · split
          · exact (grantCapture_keeps s _).1
          · rfl

/-- What every grant keeps, the arbiter keeps. -/
theorem arbitrate_of_grants {P : State → Prop} (h : ∀ u, P u → P u.grantOnce) {s : State} (hs : P s) : P s.arbitrate := by
  have hfor : ∀ n (u : State), P u → P (State.arbitrateFor n u) := by
    intro n
    induction n with
    | zero => exact fun _ hu => hu
    | succ n ih =>
      intro u hu
      unfold State.arbitrateFor
      split
      · exact ih _ (h u hu)
      · exact hu
  exact hfor 3 s hs

theorem mpt_dropDeadHeads (s : State) : s.dropDeadHeads.mpt = s.mpt := by
  unfold State.dropDeadHeads
  split <;> rfl

/-- While the panel does not hold, what follows an event at the memory port leaves its power and its refreshes owed. -/
theorem standing_settleMemory (s : State) (h : s.sco.state ≠ .holding) : s.settleMemory.mpt.standing = s.mpt.standing := by
  rw [settleMemory_of_not_holding s h, ← mpt_dropDeadHeads s]
  exact arbitrate_of_grants (P := fun u => u.mpt.standing = s.dropDeadHeads.mpt.standing)
    (fun u hu => (standing_grantOnce u).trans hu) rfl

theorem exitReached_of_due (s : State) (d : Deadline) (hp : s.mpt.power = .waking) (hd : s.mpt.exitDeadline = some d)
    (hdue : d.due s.relayTime = true) : s.exitReached = s.memoryAwake.settleMemory :=
  if_pos ⟨hp, by rw [hd]; exact hdue⟩

/-- Settles O21: the entry is `enterSelfRefresh` alone, the exit `memoryAwake` with grants that leave the power. -/
theorem memoryRestsAndWakes : Obligations.MemoryRestsAndWakes := by
  refine ⟨fun e s h => ?_, fun e d s hpower hd hdue hhold => ?_⟩
  · have hrest := settleMemory_of_mayRest (s.arrive e) ((mayRest_arrive s e).trans h)
    have hmpt := mpt_enterSelfRefresh (s.arrive e)
    have hsource : (s.arrive e).pacing.repeatSource = s.pacing.repeatSource := by rw [arrive_pacing]
    have hpin : ∀ k, ((s.arrive e).slot k).unpinned ↔
        (s.slot k).pinHolders.system = false ∧ (s.slot k).pinHolders.link = false := fun k => by
      rw [unpinned_iff, arrive_slot_pinHolders, Bool.or_eq_false_iff]
    refine ⟨_, congrArg Host.Outcome.next hrest, ?_, ?_, ?_, fun k hk => ⟨fun hkept => ?_, fun hun => ?_⟩⟩
    · rw [hmpt]
    · rw [hmpt]
    · rw [hmpt]
    · refine slot_enterSelfRefresh_of_kept _ k ?_
      rw [hsource, hpin, Bool.eq_false_iff, Bool.eq_false_iff]
      tauto
    · exact state_enterSelfRefresh_of_unkept _ k (by rw [arrive_usable]; exact hk) (by rw [hsource]; exact hun.1)
        ((hpin k).mpr hun.2)
  · have hreach := exitReached_of_due (s.arrive e) d (by rw [arrive_mpt]; exact hpower) (by rw [arrive_mpt]; exact hd) hdue
    have hstand := standing_settleMemory (s.arrive e).memoryAwake
      (by show (s.arrive e).sco.state ≠ _; rw [arrive_sco]; exact hhold)
    generalize (s.arrive e).memoryAwake.settleMemory = t at hreach hstand
    simp only [MemPort.standing, Prod.mk.injEq] at hstand
    obtain ⟨hp, he, ho, ht, hm⟩ := hstand
    refine ⟨t, congrArg Host.Outcome.next hreach, hp, he, ho, ht, ?_⟩
    rw [hm]
    show (s.arrive e).mpt.frameMemory = _
    rw [arrive_mpt]

end Sys2Proof.Machine
end


section
/-! The close of a scan (R65, R67, R79, R106, R109, R152, R153). -/
namespace Sys2Proof.Machine

/-! ## What follows the close -/

theorem lastScan_openScan (s : State) : s.openScan.sco.lastScan = s.sco.lastScan := by
  have hi : s.installPanel.sco.lastScan = s.takePanel.sco.lastScan := congrArg Still.lastScan (even_installPanel s).still
  have ht : s.takePanel.sco.lastScan = s.sco.lastScan := by
    unfold State.takePanel
    split <;> rfl
  rw [openScan_eq, State.openAs, ← hi.trans ht]
  generalize s.installPanel = u
  obtain ⟨v, pixels, hv, -, e⟩ := beginScan_line (((u.recordOpen u.chooseScan.1).openKind u.chooseScan.1
    u.chooseScan.2).installOverlay u.chooseScan.1) u.chooseScan.1 u.chooseScan.2
    (fallbackFor u.chooseScan.1 u.chooseScan.2 u.pacing.repeatSource)
  rw [e]
  exact (congrArg Still.lastScan hv.still).trans ((congrArg Still.lastScan (steady_installOverlay _ _).still).trans
    (congrArg Still.lastScan (steady_openKind _ _ _).still))

/-- What follows an event sends after what the event sent, and leaves the last-scan part. -/
theorem settle_sends (s before : State) : (∃ more, (s.settle before).link = s.link ++ more) ∧
    (s.settle before).sco.lastScan = s.sco.lastScan := by
  have hmemory : ∀ u : State, u.settleMemory.link = u.link ∧ u.settleMemory.sco.lastScan = u.sco.lastScan := fun u =>
    ⟨(steady_settleMemory u).link, congrArg Still.lastScan (steady_settleMemory u).still⟩
  rcases settle_cases s before with e | e | e <;> rw [e, (hmemory _).1, (hmemory _).2]
  · exact ⟨⟨[], (List.append_nil _).symm⟩, rfl⟩
  · exact ⟨⟨[.holdEnter], rfl⟩, rfl⟩
  · obtain ⟨kind, pixels, hsent, -⟩ := (openScan_opens s).sent
    exact ⟨⟨_, hsent⟩, lastScan_openScan s⟩

/-- Before the Tmin gate no frame is a candidate (R81, R82). -/
theorem candidate_before_gate (s : State) : s.candidate false = none := by
  have hstart : ∀ r : Slot, r.mayStart s.contract.lf false = false := fun r => by
    unfold Slot.mayStart
    split <;> exact Bool.and_false _
  have hc : s.candidates false = [] := List.filter_eq_nil_iff.mpr fun k _ => by rw [hstart, Bool.and_false]; decide
  rw [State.candidate, hc]
  rfl

/-- Before the Tmin gate, an event that leaves the repeat deadline's span is followed by the memory port's part alone. -/
theorem settle_before_gate (s before : State) (hspan : s.usesIdle = before.usesIdle) (hgate : s.gateMet = false) :
    s.settle before = s.settleMemory := by
  have h1 : s.respan before = s := if_neg fun h => h.1 hspan
  have h2 : s.evaluateStart = s := if_neg fun h => h.2.2 (by rw [hgate]; exact candidate_before_gate s)
  rw [State.settle, h1, h2]

/-- The arbiter asks for no scan read. -/
theorem scanReads_grantOnce (s : State) (h : s.mpt.scanReads = []) : s.grantOnce.mpt.scanReads = [] := by
  unfold State.grantOnce
  split
  · exact h
  · split
    · rename_i r rest hr
      rw [h] at hr
      cases hr
    · split
      · exact h
      · split
        · exact h
        · split
          · exact (grantCapture_keeps s _).2.trans h
          · exact h

theorem scanReads_settleMemory (s : State) (hs : s.sco.state ≠ .holding) (h : s.mpt.scanReads = []) :
    s.settleMemory.mpt.scanReads = [] := by
  rw [settleMemory_of_not_holding s hs]
  exact arbitrate_of_grants (P := fun u => u.mpt.scanReads = []) scanReads_grantOnce (by rw [mpt_dropDeadHeads]; exact h)

/-! ## The repeat source (R65) -/

theorem youngest_congr {s t : State} (h : ∀ k, t.age k = s.age k) (ks : List (Fin 5)) : t.youngest ks = s.youngest ks := by
  induction ks with
  | nil => rfl
  | cons k ks ih => simp only [State.youngest, ih, h]

/-- The proper repeat source rests on the slots, the presented slot and the ages. -/
theorem properRepeat_congr {s t : State} (hs : t.store = s.store) (hn : t.relayTime = s.relayTime)
    (hp : t.pacing.presented = s.pacing.presented) : t.properRepeat = s.properRepeat := by
  have hslot : ∀ k, t.slot k = s.slot k := fun k => by rw [State.slot, hs]; rfl
  have hcomplete : t.isComplete = s.isComplete := funext fun k => by rw [State.isComplete, hslot]; rfl
  have hnewest : t.newestComplete = s.newestComplete := by
    rw [State.newestComplete, State.newestComplete, State.usableSlots, State.usableSlots, hs, hcomplete]
    exact youngest_congr (fun k => by rw [State.age, State.age, hn, hslot]) _
  rw [State.properRepeat, State.properRepeat, hp, hcomplete, hnewest]

/-! ## The report of a NEW scan (R79, R106, R153) -/

theorem getLast_push (u : Records) (x : FrameRecord) :
    (u.push x).ring.getLast? = some { x with sequence := u.nextSequence, repeats := u.repeatTally } := by
  simp [Records.push]

/-- What a NEW scan's close adds to the record of the frame in slot k. -/
def State.scanPart (s : State) (c : Scan) (k : Fin 5) : NewScanPart :=
  { openTime := c.openTime, lag := (s.slot k).lag.getD 0, late := c.late, damaged := c.damaged,
    substituted := c.substituted }

/-- The pacing engine's state after a NEW scan of slot k: the penalty follows the late count of a PASS frame. -/
def State.pacingAfter (s : State) (c : Scan) (k : Fin 5) : Pacing :=
  if (s.slot k).mode = some .pass then s.pacing.afterScan c.late else s.pacing

/-- The record of a NEW scan pushed and the late count in its slot. -/
def State.scanRecorded (s : State) (c : Scan) (k : Fin 5) : State :=
  (s.recordPushed k false (some (s.scanPart c k))).modSlot k fun r => { r with lateSlices := c.late }

theorem offCauses_reportNewScan (s : State) (c : Scan) (k : Fin 5) :
    (s.reportNewScan c k).offCauses = State.offCauses { s.scanRecorded c k with pacing := s.pacingAfter c k } := by
  unfold State.reportNewScan
  extract_lets part s1 s2 s3
  have h2 : s2.offCauses = (s.recordPushed k false (some (s.scanPart c k))).offCauses := by
    simp only [s2]
    split <;> exact offCauses_appendRecord s k false (some part)
  have h3 : s3.offCauses = (s.scanRecorded c k).offCauses :=
    (congrArg (fun u : State => u.modSlot k fun r => { r with lateSlices := c.late }) h2 :)
  have hpacing : s3.pacing = s.pacing := (congrArg State.pacing h3 :)
  unfold State.pacingAfter
  split
  · rw [hpacing]
    exact (congrArg (fun u : State => { u with pacing := s.pacing.afterScan c.late }) h3 :)
  · exact h3

theorem slot_scanRecorded (s : State) (c : Scan) (k : Fin 5) :
    (s.scanRecorded c k).slot k = { s.slot k with recorded := true, lateSlices := c.late } := by
  rw [State.scanRecorded, slot_modSlot_same, State.recordPushed, slot_modSlot_same]
  rfl

theorem slot_reportNewScan (s : State) (c : Scan) (k : Fin 5) :
    (s.reportNewScan c k).slot k = { s.slot k with recorded := true, lateSlices := c.late } :=
  (slot_of_offCauses (offCauses_reportNewScan s c k) k).trans (slot_scanRecorded s c k)

theorem records_reportNewScan (s : State) (c : Scan) (k : Fin 5) : (s.reportNewScan c k).records =
    s.records.push (frameRecord k (s.slot k) false (some (s.scanPart c k))) :=
  (congrArg State.records (offCauses_reportNewScan s c k) :)

theorem pacing_reportNewScan (s : State) (c : Scan) (k : Fin 5) : (s.reportNewScan c k).pacing = s.pacingAfter c k :=
  (congrArg State.pacing (offCauses_reportNewScan s c k) :)

theorem relay_reportNewScan (s : State) (c : Scan) (k : Fin 5) : (s.reportNewScan c k).relay = s.relay :=
  (congrArg State.relay (offCauses_reportNewScan s c k) :)

theorem penalty_afterScan (p : Pacing) (late : Nat) : ((p.afterScan late).penalty, (p.afterScan late).clean) =
    if 1 ≤ late then (min (p.penalty + 1) 4, 0)
    else if p.clean < 15 then (p.penalty, p.clean + 1) else (p.penalty - 1, 0) := by
  unfold Pacing.afterScan
  split
  · rfl
  · split <;> rfl

/-- RECORDS_WAITING is the one cause that an append raises. -/
theorem flags_appendRecord (s : State) (k : Fin 5) (superseded : Bool) (scan : Option NewScanPart) (q : Port) (b : Cause)
    (hb : b ≠ .recordsWaiting) : ((s.appendRecord k superseded scan).port q).flags b = (s.port q).flags b := by
  rw [State.appendRecord, State.eachFree, foldl_keeps (fun u => (u.port q).flags b) State.raiseRecordsWaiting fun u p => by
    rw [State.raiseRecordsWaiting, port_raise, flags_enter_other _ _ _ _ hb]]
  rfl

theorem lateSlices_reportNewScan (s : State) (c : Scan) (k : Fin 5) (q : Port) :
    ((s.reportNewScan c k).port q).flags .lateSlices =
      if 1 ≤ c.late then ((s.port q).flags .lateSlices).enter 0 else (s.port q).flags .lateSlices := by
  unfold State.reportNewScan
  extract_lets part s1 s2 s3
  have h1 : (s1.port q).flags .lateSlices = (s.port q).flags .lateSlices := flags_appendRecord s k _ _ q _ nofun
  have h3 : (s3.port q).flags .lateSlices =
      if 1 ≤ c.late then ((s.port q).flags .lateSlices).enter 0 else (s.port q).flags .lateSlices := by
    show (s2.port q).flags .lateSlices = _
    simp only [s2]
    split
    · rw [port_raise, flags_enter_same, h1]
    · exact h1
  split <;> exact h3

/-! ## The close -/

/-- What a close before the Tmin gate leaves of u, in which SCAN_CLOSE is sent and a NEW scan reported. -/
structure ScanClosed (u : State) (c : Scan) (t : State) : Prop where
  link : t.link = u.link
  state : t.sco.state = .ready
  scan : t.sco.scan = none
  scanReads : t.mpt.scanReads = []
  slot : ∀ k, c.slot = some k → t.slot k = { u.slot k with underScan := false }
  records : t.records = u.records
  penalty : t.pacing.penalty = u.pacing.penalty
  clean : t.pacing.clean = u.pacing.clean
  repeatSource : t.pacing.repeatSource = t.properRepeat
  flags : ∀ q b, (t.port q).flags b = (u.port q).flags b

theorem slot_endScan (s : State) (c : Scan) (ending : ScanEnding) (k : Fin 5) (hk : c.slot = some k) :
    (s.endScan c ending).slot k = { s.slot k with underScan := false } := by
  have hstore : (s.endScan c ending).store = (s.modSlot k fun r => { r with underScan := false }).store := by
    simp only [State.endScan, hk]
    rfl
  rw [State.slot, hstore]
  exact slot_modSlot_same s k _

/-- The end of a scan withdraws its reads, and leaves the link, the records, pacing, the causes and the relay. -/
theorem endScan_keeps (s : State) (c : Scan) (ending : ScanEnding) : (s.endScan c ending).link = s.link ∧
    (s.endScan c ending).records = s.records ∧ (s.endScan c ending).pacing = s.pacing ∧
    (s.endScan c ending).peu = s.peu ∧ (s.endScan c ending).relay = s.relay ∧ (s.endScan c ending).mpt.scanReads = [] := by
  unfold State.endScan
  split <;> exact ⟨rfl, rfl, rfl, rfl, rfl, rfl⟩

/-- The end of a scan with the repeat source re-evaluated, and the memory port's part after it. -/
theorem scanClosed_settleMemory (u : State) (c : Scan) :
    ScanClosed u c (u.endScan c .closed).reevalRepeatFull.settleMemory := by
  have hsco := sco_endScan u c .closed
  have hslot := slot_endScan u c .closed
  obtain ⟨hlink, hrecords, hpacing, hpeu, -, hreads⟩ := endScan_keeps u c .closed
  generalize u.endScan c .closed = v at hsco hslot hlink hrecords hpacing hpeu hreads
  have hready : v.sco.state ≠ .holding := by
    rw [hsco]
    exact nofun
  have hreads' := scanReads_settleMemory v.reevalRepeatFull hready hreads
  have hoff := offMemory_settleMemory v.reevalRepeatFull hready
  generalize v.reevalRepeatFull.settleMemory = t at hreads' hoff
  have hp : t.pacing = { v.pacing with repeatSource := v.properRepeat } := pacing_of_offMemory hoff
  have hs : t.sco = v.sco := (sco_of_offMemory hoff :)
  have hsource : t.properRepeat = v.properRepeat :=
    properRepeat_congr (store_of_offMemory hoff :) (congrArg State.relayTime hoff :) (by rw [hp])
  exact
    { link := (link_of_offMemory hoff).trans hlink
      state := by rw [hs, hsco]
      scan := by rw [hs, hsco]
      scanReads := hreads'
      slot := fun k hk => (slot_of_offMemory hoff k).trans (hslot k hk)
      records := (records_of_offMemory hoff).trans hrecords
      penalty := by rw [hp, hpacing]
      clean := by rw [hp, hpacing]
      repeatSource := by rw [hp, hsource]
      flags := fun q b => (flags_of_offMemory hoff q b).trans (congrArg (fun x : Peu => (x.ports.get q).flags b) hpeu) }

/-- A close that is due, with every line drawn. -/
theorem exec_scanClose (e : Env) (c : Scan) (s : State) (hscan : s.sco.scan = some c) (hline : c.nextLine = c.ph)
    (hspan : c.span ≤ ((s.arrive e).relayTime - c.openTime).toNat) :
    exec (.scanClose e) s = .next (((s.arrive e).closeScan c).settle (s.arrive e)) := by
  have hdue : c.closeDeadline.due (s.arrive e).relayTime = true := decide_eq_true hspan
  show Host.Outcome.next (s.arrive e).closeTaken = _
  rw [State.closeTaken, arrive_sco, hscan]
  exact congrArg Host.Outcome.next (if_pos ⟨hline, hdue⟩)

theorem relay_reportClose (s : State) (c : Scan) : (s.reportClose c).relay = s.relay := by
  unfold State.reportClose
  split
  · exact relay_reportNewScan s c _
  · rfl

theorem relay_closeScan (s : State) (c : Scan) : (s.closeScan c).relay = s.relay := by
  obtain ⟨-, -, -, -, hrelay, -⟩ := endScan_keeps ((s.send .scanClose).reportClose c) c .closed
  rw [closeScan_eq]
  exact hrelay.trans (relay_reportClose (s.send .scanClose) c)

/-- A close leaves the Tmin gate and whether its reach has been taken. -/
theorem gateMet_closeScan (s : State) (c : Scan) : (s.closeScan c).gateMet = s.gateMet := by
  have hr := steady_reportClose (s.send .scanClose) c
  obtain ⟨-, -, hpacing, -⟩ := endScan_keeps ((s.send .scanClose).reportClose c) c .closed
  have htmin : (s.closeScan c).pacing.tminReached = s.pacing.tminReached := by
    rw [closeScan_eq]
    exact (congrArg Pacing.tminReached hpacing :).trans hr.tminReached
  have hopen : (s.closeScan c).pacing.lastOpen = s.pacing.lastOpen := by
    rw [closeScan_eq]
    exact (congrArg Pacing.lastOpen hpacing :).trans hr.lastOpen
  rw [State.gateMet, htmin, hopen]
  rfl

/-- A close before the Tmin gate opens no scan. -/
theorem scanClose_before_gate (e : Env) (c : Scan) (s : State) (hscan : s.sco.scan = some c) (hline : c.nextLine = c.ph)
    (hspan : c.span ≤ ((s.arrive e).relayTime - c.openTime).toNat) (htmin : s.pacing.tminReached = false)
    (hopen : s.pacing.lastOpen ≠ none) :
    ∃ t, exec (.scanClose e) s = .next t ∧ ScanClosed (((s.arrive e).send .scanClose).reportClose c) c t := by
  have hidle : ((s.arrive e).closeScan c).usesIdle = (s.arrive e).usesIdle := by
    rw [State.usesIdle, relay_closeScan]
    rfl
  have hgate : ((s.arrive e).closeScan c).gateMet = false := by
    rw [gateMet_closeScan, State.gateMet, arrive_pacing, htmin, decide_eq_false hopen]
    rfl
  refine ⟨_, exec_scanClose e c s hscan hline hspan, ?_⟩
  rw [settle_before_gate _ _ hidle hgate, closeScan_eq]
  exact scanClosed_settleMemory _ c

/-- Whatever follows it, a close sends SCAN_CLOSE first and reports the scan. -/
theorem closeScan_settle_sends (s before : State) (c : Scan) (h : s.link = []) :
    ((s.closeScan c).settle before).link.head? = some .scanClose ∧
      ((s.closeScan c).settle before).sco.lastScan = some (c.summary .closed) := by
  obtain ⟨⟨more, hmore⟩, hlast⟩ := settle_sends (s.closeScan c) before
  have hsent : (s.closeScan c).link = [.scanClose] := by
    obtain ⟨hlink, -⟩ := endScan_keeps ((s.send .scanClose).reportClose c) c .closed
    rw [closeScan_eq]
    refine (hlink.trans (steady_reportClose (s.send .scanClose) c).link).trans ?_
    rw [State.send, h]
    rfl
  refine ⟨by rw [hmore, hsent]; rfl, hlast.trans ?_⟩
  rw [closeScan_eq]
  exact congrArg ScanOut.lastScan (sco_endScan ((s.send .scanClose).reportClose c) c .closed)

/-- Upsets reach the slice entries alone, so a record is the same after the arrival. -/
theorem frameRecord_arrive (s : State) (e : Env) (k : Fin 5) (superseded : Bool) (scan : Option NewScanPart) :
    frameRecord k ((s.arrive e).slot k) superseded scan = frameRecord k (s.slot k) superseded scan := by
  simp only [frameRecord, arrive_slot_frameNumber, arrive_slot_mode, arrive_slot_state, arrive_slot_concealedLines,
    arrive_slot_arrival, arrive_slot_delivery, arrive_slot_lead]

theorem scanPart_arrive (s : State) (e : Env) (c : Scan) (k : Fin 5) :
    ((s.arrive e).send .scanClose).scanPart c k = s.scanPart c k := by
  have hlag : (((s.arrive e).send .scanClose).slot k).lag = (s.slot k).lag := arrive_slot_lag s e k
  rw [State.scanPart, hlag]
  rfl

/-- Settles O28: SCAN_CLOSE and the summary come with every close; before the Tmin gate the report of a NEW scan, or no
report, is what the close leaves. -/
theorem scanCloseReportsTheScan : Obligations.ScanCloseReportsTheScan := by
  refine ⟨fun e c s hscan hline hspan => ?_, fun e c k s hscan hline hspan hkind hslot htmin hopen => ?_,
    fun e c s hscan hline hspan hkind htmin hopen => ?_⟩
  · exact ⟨_, exec_scanClose e c s hscan hline hspan, closeScan_settle_sends _ _ c (arrive_link s e)⟩
  · obtain ⟨t, hexec, h⟩ := scanClose_before_gate e c s hscan hline hspan htmin hopen
    have hreport : ((s.arrive e).send .scanClose).reportClose c = ((s.arrive e).send .scanClose).reportNewScan c k := by
      simp only [State.reportClose, hkind, hslot]
    rw [hreport] at h
    have hclosed := h.slot k hslot
    have hrecords := h.records.trans (records_reportNewScan _ c k)
    have hpenalty := h.penalty.trans (congrArg Pacing.penalty (pacing_reportNewScan _ c k))
    have hclean := h.clean.trans (congrArg Pacing.clean (pacing_reportNewScan _ c k))
    have hlate := fun q => (h.flags q .lateSlices).trans (lateSlices_reportNewScan _ c k q)
    have hmode : (((s.arrive e).send .scanClose).slot k).mode = (s.slot k).mode := arrive_slot_mode s e k
    have hrecord : frameRecord k (((s.arrive e).send .scanClose).slot k) false
        (some (((s.arrive e).send .scanClose).scanPart c k)) = frameRecord k (s.slot k) false (some (s.scanPart c k)) :=
      (frameRecord_arrive s e k false _).trans (by rw [scanPart_arrive])
    rw [slot_reportNewScan] at hclosed
    rw [State.pacingAfter, hmode, send_pacing, arrive_pacing] at hpenalty hclean
    refine ⟨t, hexec, ?_, h.state, h.scan, h.scanReads, by rw [hclosed], by rw [hclosed], by rw [hclosed], h.repeatSource,
      ?_, ?_, ?_, fun q hq => ?_, fun q hq => ?_, fun hpass => ?_, fun hpass => ?_⟩
    · rw [h.link, (steady_reportNewScan _ c k).link, State.send, arrive_link]
      rfl
    · rw [hrecords, getLast_push, send_records, arrive_records, hrecord]
      rfl
    · rw [hrecords]
      show (s.arrive e).records.nextSequence + 1 = _
      rw [arrive_records]
    · rw [hrecords]
      rfl
    · rw [hlate, if_pos hq, pending_enter]
    · rw [hlate, if_neg (by omega)]
      exact congrArg (fun x : PortCtl => x.flags .lateSlices) (arrive_port s e q)
    · rw [if_pos hpass] at hpenalty hclean
      rw [hpenalty, hclean, penalty_afterScan]
    · rw [if_neg hpass] at hpenalty hclean
      exact ⟨hpenalty, hclean⟩
  · obtain ⟨t, hexec, h⟩ := scanClose_before_gate e c s hscan hline hspan htmin hopen
    have hreport : ((s.arrive e).send .scanClose).reportClose c = (s.arrive e).send .scanClose := by
      unfold State.reportClose
      split
      · exact absurd ‹c.kind = .new› hkind
      · rfl
    rw [hreport] at h
    refine ⟨t, hexec, ?_, h.state, h.scan, h.scanReads, fun k hk => by rw [h.slot k hk], ?_, ?_, ?_, h.repeatSource,
      fun q => ?_⟩
    · rw [h.link, State.send, arrive_link]
      rfl
    · rw [h.records, send_records, arrive_records]
    · rw [h.penalty, send_pacing, arrive_pacing]
    · rw [h.clean, send_pacing, arrive_pacing]
    · rw [h.flags]
      exact congrArg (fun x : PortCtl => x.flags .lateSlices) (arrive_port s e q)

end Sys2Proof.Machine
end

section
/-! An empty queue, and what a scan open or a hold leaves once the event it came with has settled. -/
namespace Sys2Proof.Machine

/-- Settles O2: a tick advances relay time by one, with the note as `idleAfter` gives it. -/
theorem emptyQueueTicks : Obligations.EmptyQueueTicks := fun s h =>
  ⟨s.tick, step_nil s h, rfl, idleAfter_iff s 1⟩

/-! ## A scan open and what follows it (R84, R86, R128) -/

/-- PANEL READY's level and the registers of a wake, which a scan open leaves. -/
def State.wakeEnd (s : State) : Bool × Option Deadline × Option WakeEnding :=
  (s.panelReady, s.sco.wakeDeadline, s.sco.lastWakeEnding)

theorem Even.wakeEnd {s t : State} (h : Even s t) : t.wakeEnd = s.wakeEnd :=
  (congrArg (fun x : Still => (x.panelReady, x.wakeDeadline, x.lastWakeEnding)) h.still :)

theorem wakeEnd_openAs (s : State) (kind : ScanKind) (k fallback : Option (Fin 5)) :
    (s.openAs kind k fallback).wakeEnd = s.wakeEnd := by
  have hk := steady_openKind (s.recordOpen kind) kind k
  have ho := steady_installOverlay ((s.recordOpen kind).openKind kind k) kind
  obtain ⟨u, pixels, hu, -, hbegin⟩ :=
    beginScan_line (((s.recordOpen kind).openKind kind k).installOverlay kind) kind k fallback
  rw [State.openAs, hbegin]
  exact hu.wakeEnd.trans (ho.wakeEnd.trans hk.wakeEnd)

theorem wakeEnd_openScan (s : State) : s.openScan.wakeEnd = s.wakeEnd := by
  have htake : s.takePanel.wakeEnd = s.wakeEnd := by
    unfold State.takePanel
    split <;> rfl
  rw [openScan_eq, wakeEnd_openAs, (even_installPanel s).wakeEnd, htake]

/-- What an event leaves that opens a scan in s, with the memory port's part after the open. -/
structure Opened (s t : State) : Prop where
  state : t.sco.state = .scanning
  waitingRepeat : t.pacing.waitingRepeat = false
  wakeEnd : t.wakeEnd = s.wakeEnd
  pending : ∀ p c, ((s.port p).flags c).pending = true → ((t.port p).flags c).pending = true
  sent : ∃ kind pixels, t.link = s.link ++ [.scanOpen kind, .line 0 pixels] ∧
    (t.pacing.lastOpen.map fun o => (o.time, o.kind)) = some (s.relayTime, kind)

theorem openScan_settle (s before : State) : s.openScan.settle before = s.openScan.settleMemory :=
  settle_of_not_ready _ _ (by rw [(openScan_opens s).state]; decide)

theorem opened_settle (s before : State) : Opened s (s.openScan.settle before) := by
  have ho := openScan_opens s
  have hm := steady_settleMemory s.openScan
  obtain ⟨kind, pixels, hlink, -, hlast⟩ := ho.sent
  rw [openScan_settle]
  exact
    { state := hm.scanOut.trans ho.state
      waitingRepeat := hm.waiting ho.waitingRepeat
      wakeEnd := hm.wakeEnd.trans (wakeEnd_openScan s)
      pending := fun p c hp => hm.pending p c (ho.pending p c hp)
      sent := ⟨kind, pixels, hm.link.trans hlink, by rw [hm.lastOpen]; exact hlast⟩ }

/-- Where nothing had been sent at the event, SCAN_OPEN is its first marker. -/
theorem Opened.sent_first {s t : State} (h : Opened s t) (hlink : s.link = []) : ∃ kind,
    t.link.head? = some (.scanOpen kind) ∧
      (t.pacing.lastOpen.map fun o => (o.time, o.kind)) = some (s.relayTime, kind) := by
  obtain ⟨kind, pixels, hsent, hlast⟩ := h.sent
  exact ⟨kind, by rw [hsent, hlink]; rfl, hlast⟩

/-! ## A hold entry and what follows it (R125) -/

theorem enterHold_settle (s before : State) : (s.enterHold.settle before).sco.state = .holding ∧
    (s.enterHold.settle before).link = s.link ++ [.holdEnter] ∧
    (s.enterHold.settle before).pacing.waitingRepeat = false := by
  rw [settle_of_not_ready s.enterHold before (show ScanOutState.holding ≠ .ready by decide)]
  have hm := steady_settleMemory s.enterHold
  exact ⟨hm.scanOut, hm.link, hm.waiting rfl⟩

theorem mayHold_of_not_ready {s : State} (h : s.sco.state ≠ .ready) : s.mayHold = false :=
  Bool.eq_false_iff.mpr fun hhold => h (mayHold_ready hhold)

end Sys2Proof.Machine
end

section
/-! Statements about the Tmin gate, planned repeats and the end of a wake (R84, R90, R124, R128, R129). -/
namespace Sys2Proof.Machine

/-! ## The Tmin gate (R84, R90) -/

theorem tminGate_arrive (s : State) (e : Env) : (s.arrive e).tminGate = s.tminGate := by simp [State.tminGate]

/-- The Tmin gate is due on a running relay, unless a repeat waits for it while a scan is in progress. -/
theorem tminDue_arrive {e : Env} {d : Deadline} {s : State} (hidle : s.relay.state ≠ .idle) (hd : s.tminGate = some d)
    (hreached : s.pacing.tminReached = false) (hdue : d.due (s.arrive e).relayTime = true)
    (hfree : (s.pacing.waitingRepeat && decide (s.sco.state = .scanning)) = false) : (s.arrive e).tminDue = true := by
  rw [State.tminDue, tminGate_arrive, hd, deadlineDue, hdue, arrive_relay, arrive_pacing, arrive_sco, hreached, hfree,
    decide_eq_true hidle]
  rfl

/-- The repeat that waited for the gate is taken from there: hold, or a scan. -/
def State.gateTaken (s : State) : State := { s with pacing.tminReached := true, pacing.waitingRepeat := false }

theorem openWaiting_of_waiting (s : State) (hw : s.pacing.waitingRepeat = true) (hready : s.sco.state = .ready) :
    State.openWaiting { s with pacing.tminReached := true } = s.gateTaken.holdOrOpen := by
  rw [State.openWaiting, if_pos hw]
  exact if_pos hready

/-- Settles O23: with no repeat waiting the gate's reach is all that happens; a waiting repeat goes to `holdOrOpen`. -/
theorem tminGateIsTaken : Obligations.TminGateIsTaken := by
  refine ⟨fun e d s hidle hd hreached hdue hwait hscan => ?_, fun e d s hidle hd hreached hdue hwait hready => ?_⟩
  · have htake : (s.arrive e).tminTaken = State.settle { s.arrive e with pacing.tminReached := true } (s.arrive e) := by
      have hw : ¬ (s.arrive e).pacing.waitingRepeat = true := by rw [arrive_pacing, hwait]; decide
      have hopen : State.openWaiting { s.arrive e with pacing.tminReached := true } =
          { s.arrive e with pacing.tminReached := true } := if_neg hw
      rw [State.tminTaken, if_pos (tminDue_arrive hidle hd hreached hdue (by rw [hwait]; rfl)), hopen]
    have hoff := offMemory_settle_of_scanning { s.arrive e with pacing.tminReached := true } (s.arrive e)
      (by rw [← hscan]; exact congrArg ScanOut.state (arrive_sco s e))
    exact ⟨_, congrArg Host.Outcome.next htake, by rw [pacing_of_offMemory hoff], (store_of_offMemory hoff :),
      (sco_of_offMemory hoff).trans (arrive_sco s e), (relay_of_offMemory hoff).trans (arrive_relay s e)⟩
  · have htake : (s.arrive e).tminTaken = (s.arrive e).gateTaken.holdOrOpen.settle (s.arrive e) := by
      rw [State.tminTaken, if_pos (tminDue_arrive hidle hd hreached hdue (by rw [hready, hwait]; rfl)),
        openWaiting_of_waiting _ (by rw [arrive_pacing, hwait]) (by rw [arrive_sco, hready])]
    have hlink : (s.arrive e).gateTaken.link = [] := arrive_link s e
    have hmay : (s.arrive e).gateTaken.mayHold = (s.arrive e).mayHold := rfl
    by_cases hhold : (s.arrive e).mayHold = true
    · obtain ⟨hstate, hsent, hclear⟩ := enterHold_settle (s.arrive e).gateTaken (s.arrive e)
      rw [State.holdOrOpen, if_pos (hmay.trans hhold)] at htake
      rw [hlink] at hsent
      exact ⟨_, congrArg Host.Outcome.next htake, hclear, fun _ => ⟨hstate, hsent⟩,
        fun h => Bool.noConfusion (hhold.symm.trans h)⟩
    · have ho := opened_settle (s.arrive e).gateTaken (s.arrive e)
      obtain ⟨kind, hfirst, -⟩ := ho.sent_first hlink
      rw [State.holdOrOpen, if_neg (by rw [hmay]; exact hhold)] at htake
      exact ⟨_, congrArg Host.Outcome.next htake, ho.waitingRepeat, fun h => absurd h hhold,
        fun _ => ⟨ho.state, kind, hfirst⟩⟩

/-! ## Planned repeats (R90) -/

/-- The first planned repeat leaves the list. -/
def State.plannedDropped (s : State) : State := { s with pacing.planned := s.pacing.planned.drop 1 }

/-- The first planned repeat is taken once due, with the scan-out READY or with a scan in progress before the gate. -/
theorem plannedTaken_of_due {e : Env} {d : Deadline} {rest : List Deadline} {s : State} (hidle : s.relay.state ≠ .idle)
    (hplan : s.pacing.planned = d :: rest) (hdue : d.due (s.arrive e).relayTime = true)
    (hstate : s.sco.state = .ready ∨ s.sco.state = .scanning ∧ s.pacing.tminReached = false) :
    (s.arrive e).plannedTaken = (s.arrive e).plannedDropped.takePlanned.settle (s.arrive e) := by
  have hhead : deadlineDue (s.arrive e).pacing.planned.head? (s.arrive e).relayTime = true := by
    rw [arrive_pacing, hplan]
    exact hdue
  refine if_pos ?_
  rw [State.plannedDue, hhead, arrive_relay, arrive_sco, arrive_pacing, decide_eq_true hidle]
  rcases hstate with h | ⟨h, hgate⟩
  · rw [h]; rfl
  · rw [h, hgate]; rfl

/-- Settles O25: during a scan no hold may be entered and the repeat waits; READY after the gate it opens a scan. -/
theorem plannedRepeatOpensOrWaits : Obligations.PlannedRepeatOpensOrWaits := by
  refine ⟨fun e d rest s hidle hscan hplan hdue hgate => ?_, fun e d rest s hidle hready hplan hdue hgate hhold => ?_⟩
  · have hstate : (s.arrive e).plannedDropped.sco.state = .scanning :=
      (congrArg ScanOut.state (arrive_sco s e)).trans hscan
    have hreached : ¬ (s.arrive e).plannedDropped.pacing.tminReached = true := by
      show ¬ (s.arrive e).pacing.tminReached = true
      rw [arrive_pacing, hgate]
      decide
    have hwaits : (s.arrive e).plannedDropped.takePlanned =
        { (s.arrive e).plannedDropped with pacing.waitingRepeat := true } := by
      rw [State.takePlanned, mayHold_of_not_ready (by rw [hstate]; decide), if_neg Bool.false_ne_true, if_neg hreached]
    have htake := plannedTaken_of_due hidle hplan hdue (.inr ⟨hscan, hgate⟩)
    rw [hwaits] at htake
    have hoff := offMemory_settle_of_scanning { (s.arrive e).plannedDropped with pacing.waitingRepeat := true }
      (s.arrive e) hstate
    have hpacing := pacing_of_offMemory hoff
    refine ⟨_, congrArg Host.Outcome.next htake, ?_, by rw [hpacing], (sco_of_offMemory hoff).trans (arrive_sco s e),
      (link_of_offMemory hoff).trans (arrive_link s e)⟩
    rw [hpacing]
    show (s.arrive e).pacing.planned.drop 1 = rest
    rw [arrive_pacing, hplan]
    rfl
  · have hmay : ¬ (s.arrive e).plannedDropped.mayHold = true := by
      show ¬ (s.arrive e).mayHold = true
      rw [hhold]
      decide
    have hreached : (s.arrive e).plannedDropped.pacing.tminReached = true :=
      (congrArg Pacing.tminReached (arrive_pacing s e)).trans hgate
    have htake := plannedTaken_of_due hidle hplan hdue (.inl hready)
    rw [State.takePlanned, if_neg hmay, if_pos hreached] at htake
    have ho := opened_settle (s.arrive e).plannedDropped (s.arrive e)
    obtain ⟨kind, hfirst, hlast⟩ := ho.sent_first (arrive_link s e)
    exact ⟨_, kind, congrArg Host.Outcome.next htake, ho.state, hfirst, hlast⟩

/-! ## The end of a wake (R128, R129) -/

/-- The scan-out after a wake: READY, its deadline gone, its ending recorded. -/
def State.awake (s : State) (ending : WakeEnding) : State :=
  { s with sco.state := .ready, sco.wakeDeadline := none, sco.lastWakeEnding := some ending }

theorem completeWake_of_gate {s : State} (ending : WakeEnding)
    (h : s.pacing.tminReached = true ∨ ∀ d, s.tminGate = some d → d.due s.relayTime = true) :
    s.completeWake ending = (s.awake ending).openScan := by
  rcases completeWake_cases s ending with ⟨-, e⟩ | ⟨hgate, -⟩
  · exact e
  · rw [(gatePassed_iff s).mpr h] at hgate
    cases hgate

theorem completeWake_before_gate {s : State} {d : Deadline} (ending : WakeEnding) (hreached : s.pacing.tminReached = false)
    (hd : s.tminGate = some d) (hdue : d.due s.relayTime = false) :
    s.completeWake ending = { s.awake ending with pacing.waitingRepeat := true } := by
  rcases completeWake_cases s ending with ⟨hgate, -⟩ | ⟨-, e⟩
  · rcases (gatePassed_iff s).mp hgate with h | h
    · rw [hreached] at h; cases h
    · rw [h d hd] at hdue; cases hdue
  · exact e

/-- PANEL READY has risen at the arrival. -/
def State.readyRisen (s : State) (e : Env) : State := { s.arrive e with panelReady := true }

theorem panelRises_of_waking {s : State} (e : Env) (h : s.sco.state = .waking) :
    (s.arrive e).panelRises = ((s.readyRisen e).completeWake .ready).settle (s.arrive e) :=
  if_pos (by rw [arrive_sco]; exact h)

theorem tminReached_arrive (s : State) (e : Env) : (s.arrive e).pacing.tminReached = s.pacing.tminReached := by
  rw [arrive_pacing]

/-- The gate's condition is that of the state at the arrival. -/
theorem gate_arrive {s : State} {e : Env} {now : Stamp}
    (h : s.pacing.tminReached = true ∨ ∀ d, s.tminGate = some d → d.due now = true) :
    (s.arrive e).pacing.tminReached = true ∨ ∀ d, (s.arrive e).tminGate = some d → d.due now = true := by
  rw [tminReached_arrive, tminGate_arrive]
  exact h

/-- Before the gate the wake ends READY, and what follows it is the memory port's part alone. -/
theorem panelRises_before_gate {e : Env} {g : Deadline} {s : State} (hstate : s.sco.state = .waking)
    (hreached : s.pacing.tminReached = false) (hg : s.tminGate = some g) (hdue : g.due (s.arrive e).relayTime = false) :
    (s.arrive e).panelRises =
      State.settleMemory { (s.readyRisen e).awake .ready with pacing.waitingRepeat := true } := by
  have hreached' : (s.readyRisen e).pacing.tminReached = false := (tminReached_arrive s e).trans hreached
  have hg' : (s.readyRisen e).tminGate = some g := (tminGate_arrive s e).trans hg
  have hopen : (s.readyRisen e).pacing.lastOpen ≠ none := fun h => by
    rw [State.tminGate, h] at hg'
    cases hg'
  rw [panelRises_of_waking e hstate, completeWake_before_gate .ready hreached' hg' hdue]
  refine settle_before_gate _ _ rfl ?_
  show ((s.readyRisen e).pacing.tminReached || decide ((s.readyRisen e).pacing.lastOpen = none)) = false
  rw [hreached', decide_eq_false hopen]
  rfl

/-- Settles O29: a wake that ends from the gate on opens a scan, and before it leaves the open waiting for the gate. -/
theorem wakeCompletesWithAnOpen : Obligations.WakeCompletesWithAnOpen := by
  refine ⟨fun e s => ⟨fun hstate hgate => ?_, fun hstate => ?_⟩, fun e d s hstate hd hdue hlow hgate => ?_,
    fun e g s hstate hreached hg hdue => ?_⟩
  · have htake := panelRises_of_waking e hstate
    rw [completeWake_of_gate (s := s.readyRisen e) .ready (gate_arrive hgate)] at htake
    have ho := opened_settle ((s.readyRisen e).awake .ready) (s.arrive e)
    obtain ⟨kind, hfirst, -⟩ := ho.sent_first (arrive_link s e)
    obtain ⟨hready, hdeadline, hending⟩ : _ ∧ _ ∧ _ := by simpa only [State.wakeEnd, Prod.mk.injEq] using ho.wakeEnd
    exact ⟨_, kind, congrArg Host.Outcome.next htake, ho.state, hending, hdeadline, hready, hfirst⟩
  · exact congrArg Host.Outcome.next (if_neg (by rw [arrive_sco]; exact hstate))
  · have htake : (s.arrive e).wakeTaken =
        (((s.arrive e).raise .panelLate 0).completeWake .late).settle (s.arrive e) := by
      rw [State.wakeTaken, if_pos ⟨by rw [arrive_sco]; exact hstate, by rw [arrive_sco, hd]; exact hdue⟩,
        State.wakeLate, if_neg (by rw [hlow]; decide)]
    rw [completeWake_of_gate (s := (s.arrive e).raise .panelLate 0) .late (gate_arrive hgate)] at htake
    have ho := opened_settle (((s.arrive e).raise .panelLate 0).awake .late) (s.arrive e)
    obtain ⟨kind, hfirst, -⟩ := ho.sent_first (arrive_link s e)
    obtain ⟨-, -, hending⟩ : _ ∧ _ ∧ _ := by simpa only [State.wakeEnd, Prod.mk.injEq] using ho.wakeEnd
    refine ⟨_, kind, congrArg Host.Outcome.next htake, ho.state, hending, hfirst, fun p => ho.pending p .panelLate ?_⟩
    show ((((s.arrive e).raise .panelLate 0).port p).flags .panelLate).pending = true
    rw [port_raise, flags_enter_same, pending_enter]
  · have htake := panelRises_before_gate hstate hreached hg hdue
    have hoff := offMemory_settleMemory { (s.readyRisen e).awake .ready with pacing.waitingRepeat := true }
      (show ScanOutState.ready ≠ .holding by decide)
    have hsco := sco_of_offMemory hoff
    have hpacing := pacing_of_offMemory hoff
    refine ⟨_, congrArg Host.Outcome.next htake, by rw [hsco]; rfl, by rw [hsco]; rfl, by rw [hsco]; rfl, by rw [hpacing],
      ?_, (link_of_offMemory hoff).trans (arrive_link s e)⟩
    rw [hpacing]
    exact (congrArg Pacing.lastOpen (arrive_pacing s e) :)

end Sys2Proof.Machine
end

section
/-! What the open of a NEW scan sets, and what the drawing of panel line 0 leaves of it (R87, R99). -/
namespace Sys2Proof.Machine

/-- A slot's figures of its NEW scan. -/
def Slot.scanned (r : Slot) : Nat × Bool × Option Stamp := (r.newCount, r.underScan, r.lag)

/-- A scan's kind, slot and open time. -/
def Scan.origin (c : Scan) : ScanKind × Option (Fin 5) × Stamp := (c.kind, c.slot, c.openTime)

/-- What a NEW open of slot k sets: the slot's figures, the presented slot, the current scan's origin. -/
structure OpenView where
  slot : Nat × Bool × Option Stamp
  presented : Option (Fin 5)
  scan : Option (ScanKind × Option (Fin 5) × Stamp)

def State.openView (s : State) (k : Fin 5) : OpenView :=
  { slot := (s.slot k).scanned, presented := s.pacing.presented, scan := s.sco.scan.map Scan.origin }

/-! ## A read of a slice entry -/

theorem openView_modSlot (s : State) (i : Fin 5) (f : Slot → Slot) (k : Fin 5) (h : ∀ r, (f r).scanned = r.scanned) :
    (s.modSlot i f).openView k = s.openView k := by
  have hslot : ((s.modSlot i f).slot k).scanned = (s.slot k).scanned := by
    by_cases hk : k = i
    · subst hk; rw [slot_modSlot_same, h]
    · rw [slot_modSlot_other _ _ _ _ hk]
  rw [State.openView, hslot]
  rfl

theorem openView_modScan (s : State) (f : Scan → Scan) (k : Fin 5) (h : ∀ c, (f c).origin = c.origin) :
    (s.modScan f).openView k = s.openView k := by
  have hscan : (s.modScan f).sco.scan.map Scan.origin = s.sco.scan.map Scan.origin := by
    rw [State.modScan, Option.map_map]
    exact congrArg (Option.map · s.sco.scan) (funext h)
  rw [State.openView, hscan]
  rfl

theorem openView_reevalRepeat (s : State) (k : Fin 5) : s.reevalRepeat.openView k = s.openView k := by
  unfold State.reevalRepeat State.reevalRepeatDuring
  split
  · split <;> rfl
  · rfl

theorem openView_completeIfResolved (s : State) (i k : Fin 5) : (s.completeIfResolved i).openView k = s.openView k := by
  unfold State.completeIfResolved State.completeSlot
  split
  · extract_lets d s1 p s2
    have h1 : s1.openView k = s.openView k := openView_modSlot s i _ k fun _ => rfl
    have h2 : s2.openView k = s1.openView k := by
      simp only [s2]
      split <;> rfl
    rw [openView_reevalRepeat, h2, h1]
  · rfl

theorem scanned_unmarkReady (r : Slot) (j : Nat) : (r.unmarkReady j).scanned = r.scanned := by
  unfold Slot.unmarkReady
  split <;> rfl

theorem openView_checkEntry (s : State) (i : Fin 5) (j : Nat) (k : Fin 5) :
    (s.checkEntry i j).openView k = s.openView k := by
  unfold State.checkEntry
  split
  · rfl
  · exact openView_modSlot s i (fun r => r.setEntry j { r.entry j with check := .good }) k fun _ => rfl
  · rw [openView_completeIfResolved]
    exact openView_modSlot s i (fun r => (r.unmarkReady j).setEntry j SliceEntry.rewritten) k
      fun r => scanned_unmarkReady r j

/-! ## A panel line -/

theorem openView_reportSlice (s : State) (cls : Option SliceClass) (k : Fin 5) :
    (s.reportSlice cls).openView k = s.openView k := by
  unfold State.reportSlice
  split <;> rfl

theorem openView_askFallback (s : State) (c : Scan) (i : Fin 5) (j : Nat) (k : Fin 5) :
    (s.askFallback c i j).1.openView k = s.openView k := by
  unfold State.askFallback
  split
  · rfl
  · split
    · split
      · rfl
      · exact openView_checkEntry s _ j k
    · rfl

theorem openView_fetchSlice (s : State) (j : Nat) (k : Fin 5) : (s.fetchSlice j).openView k = s.openView k := by
  unfold State.fetchSlice
  split
  · rfl
  · split
    · rename_i c _ _ _ i p _ _
      extract_lets s1 r d s2
      calc s2.openView k
        _ = (r.1.modScan fun c => c.decided j d).openView k := openView_reportSlice _ _ k
        _ = r.1.openView k := openView_modScan _ _ k fun _ => rfl
        _ = s1.openView k := openView_askFallback s1 c i j k
        _ = s.openView k := openView_checkEntry s i j k
    · rfl

theorem openView_fetchAt (s : State) (y : Nat) (k : Fin 5) : (s.fetchAt y).openView k = s.openView k := by
  unfold State.fetchAt
  split
  · exact foldl_keeps (fun u => u.openView k) _ (fun u j => openView_fetchSlice u j k) _ _
  · rfl

theorem openView_missedRead (s : State) (j : Nat) (d : SliceDecision) (k : Fin 5) :
    (s.missedRead j d).openView k = s.openView k := by
  have hreclass : ∀ c : Scan, (c.reclass j d).origin = c.origin := fun c => by
    unfold Scan.reclass
    split <;> rfl
  exact (openView_reportSlice _ _ k).trans (openView_modScan s _ k hreclass)

theorem openView_baseLine (s : State) (c : Scan) (y : Nat) (k : Fin 5) :
    (s.baseLine c y).1.openView k = s.openView k := by
  unfold State.baseLine
  split
  · rfl
  · split
    · dsimp only
      split
      · rfl
      · rfl
      all_goals
        split
        · rfl
        · exact openView_missedRead s _ _ k
    · rfl

/-- The drawing of a panel line leaves what the open has set. -/
theorem openView_drawNext (s : State) (k : Fin 5) : s.drawNext.openView k = s.openView k := by
  have hrelease : ∀ c : Scan, c.release.origin = c.origin := fun c => by
    unfold Scan.release
    split <;> rfl
  unfold State.drawNext
  split
  · rfl
  · rename_i c0 _
    dsimp only
    split
    · exact openView_fetchAt s _ k
    · rename_i c _
      calc ((((s.fetchAt c0.nextLine).baseLine c c0.nextLine).1.modScan fun c =>
            ({ c with nextLine := c0.nextLine + 1 } : Scan).release).openView k)
        _ = ((s.fetchAt c0.nextLine).baseLine c c0.nextLine).1.openView k :=
          openView_modScan _ _ k fun c => hrelease { c with nextLine := c0.nextLine + 1 }
        _ = (s.fetchAt c0.nextLine).openView k := openView_baseLine _ c _ k
        _ = s.openView k := openView_fetchAt s _ k

/-! ## The NEW open (R87) -/

theorem openView_installOverlay (s : State) (kind : ScanKind) (k : Fin 5) :
    (s.installOverlay kind).openView k = s.openView k := by
  unfold State.installOverlay
  split <;> rfl

/-- With no older unscanned frame to supersede, a NEW open counts the slot's scan, puts it under scan with its lag, and
presents it. -/
theorem openView_openNew (s : State) (k : Fin 5) (h : s.olderUnscanned k = []) : (s.openNew k).openView k =
    { slot := (1, true, some (s.relayTime - (s.slot k).arrival)), presented := some k
      scan := s.sco.scan.map Scan.origin } := by
  have hplan : ∀ u : State, u.planRepeats.openView k = u.openView k := fun u => by
    unfold State.planRepeats
    dsimp only
    repeat' split
    all_goals rfl
  have hpredict : ∀ u : State, (u.predict k).openView k = u.openView k := fun u => by
    unfold State.predict
    split <;> rfl
  have hsource : ∀ u : State, (u.reevalRepeatDuring (some k)).openView k = u.openView k := fun u => by
    unfold State.reevalRepeatDuring
    split <;> rfl
  have hslot := slot_modSlot_same s k fun r =>
    { r with underScan := true, newCount := 1, lag := some (s.relayTime - r.arrival) }
  rw [State.openNew, h]
  dsimp only
  rw [hplan, hpredict, hsource]
  exact congrArg (fun r : Slot => OpenView.mk r.scanned (some k) (s.sco.scan.map Scan.origin)) hslot

/-- A NEW scan begun and its first line drawn leave the open's marks. -/
theorem openView_openAs_new (s : State) (k : Fin 5) (fallback : Option (Fin 5)) (h : s.olderUnscanned k = []) :
    (s.openAs .new (some k) fallback).openView k =
      { slot := (1, true, some (s.relayTime - (s.slot k).arrival)), presented := some k
        scan := some (.new, some k, s.relayTime) } := by
  have hnew := openView_openNew (s.recordOpen .new) k h
  have hover := openView_installOverlay ((s.recordOpen .new).openNew k) .new k
  have htime : (((s.recordOpen .new).openNew k).installOverlay .new).relayTime = s.relayTime :=
    (steady_installOverlay _ _).relayTime.trans (steady_openNew (s.recordOpen .new) k).relayTime
  rw [State.openAs, beginScan_eq, openView_drawNext]
  show State.openView (State.scanBegun (((s.recordOpen .new).openNew k).installOverlay .new) .new (some k) fallback) k = _
  generalize ((s.recordOpen .new).openNew k).installOverlay .new = u at hover htime
  have hbegun : (u.scanBegun .new (some k) fallback).openView k =
      { slot := (1, true, some (s.relayTime - (s.slot k).arrival)), presented := some k
        scan := some (.new, some k, u.relayTime) } :=
    congrArg (fun v : OpenView => { v with scan := some (.new, some k, u.relayTime) }) (hover.trans hnew)
  rw [htime] at hbegun
  exact hbegun

/-- SCAN_OPEN of the scan's kind is sent before panel line 0. -/
theorem link_openAs (s : State) (kind : ScanKind) (k fallback : Option (Fin 5)) :
    ∃ pixels, (s.openAs kind k fallback).link = s.link ++ [.scanOpen kind, .line 0 pixels] := by
  have hk := steady_openKind (s.recordOpen kind) kind k
  have ho := steady_installOverlay ((s.recordOpen kind).openKind kind k) kind
  obtain ⟨u, pixels, hu, -, hbegin⟩ :=
    beginScan_line (((s.recordOpen kind).openKind kind k).installOverlay kind) kind k fallback
  have hlink : u.link = s.link ++ [.scanOpen kind] :=
    hu.link.trans (congrArg (· ++ [Marker.scanOpen kind]) (ho.link.trans hk.link))
  refine ⟨pixels, ?_⟩
  rw [State.openAs, hbegin, State.send, hlink, List.append_assoc]
  rfl

end Sys2Proof.Machine
end

section
/-! A lead gate reached (R80, R81, R83, R86, R87). -/
namespace Sys2Proof.Machine

/-! ## The one unscanned frame (R80, R83) -/

theorem youngest_ne_none (s : State) {ks : List (Fin 5)} (h : ks ≠ []) : s.youngest ks ≠ none := by
  cases ks with
  | nil => exact absurd rfl h
  | cons k ks =>
    unfold State.youngest
    split
    · exact Option.some_ne_none _
    · split <;> exact Option.some_ne_none _

/-- No frame but the one in slot k is unscanned. -/
def State.OnlyUnscanned (s : State) (k : Fin 5) : Prop := ∀ j, j ≠ k → s.unscanned j = false

theorem State.OnlyUnscanned.eq_of_unscanned {s : State} {k j : Fin 5} (h : s.OnlyUnscanned k)
    (hj : s.unscanned j = true) : j = k :=
  Decidable.byContradiction fun hne => Bool.noConfusion ((h j hne).symm.trans hj)

theorem mem_candidates (s : State) (gate : Bool) (k : Fin 5) : k ∈ s.candidates gate ↔
    k.val < s.store.usable ∧ s.unscanned k = true ∧ (s.slot k).mayStart s.contract.lf gate = true := by
  rw [State.candidates, List.mem_filter]
  simp [State.usableSlots]

/-- The one unscanned frame is the candidate once it meets its start conditions. -/
theorem candidate_of_only {s : State} {k : Fin 5} {gate : Bool} (h : s.OnlyUnscanned k) (hk : k ∈ s.candidates gate) :
    s.candidate gate = some k := by
  obtain ⟨j, hj⟩ := Option.ne_none_iff_exists'.mp (youngest_ne_none s (List.ne_nil_of_mem hk))
  obtain ⟨-, hun, -⟩ := (mem_candidates s gate j).mp (youngest_mem s _ j hj)
  rw [← h.eq_of_unscanned hun]
  exact hj

/-- With the one unscanned frame short of its start conditions there is no candidate. -/
theorem candidate_eq_none {s : State} {k : Fin 5} {gate : Bool} (h : s.OnlyUnscanned k)
    (hk : (s.slot k).mayStart s.contract.lf gate = false) : s.candidate gate = none := by
  have hnil : s.candidates gate = [] := List.eq_nil_iff_forall_not_mem.mpr fun j hj => by
    obtain ⟨-, hun, hstart⟩ := (mem_candidates s gate j).mp hj
    rw [h.eq_of_unscanned hun, hk] at hstart
    cases hstart
  rw [State.candidate, hnil]
  rfl

theorem olderUnscanned_of_only {s : State} {k : Fin 5} (h : s.OnlyUnscanned k) : s.olderUnscanned k = [] :=
  List.filter_eq_nil_iff.mpr fun j _ => by
    by_cases hj : j = k
    · simp [hj]
    · simp [h j hj]

/-- A PASS frame's start conditions, its lead gate reached: READY slices enough, or no more to come (R81). -/
theorem mayStart_pass {r : Slot} {lf : Nat} (hmode : r.mode = some .pass) (hlead : r.leadReached = true) (gate : Bool) :
    r.mayStart lf gate = true ↔
      (lf ≤ r.readyCount ∨ r.state = .draining ∨ r.state = .complete ∨ r.state = .short) ∧ gate = true := by
  simp [Slot.mayStart, hmode, hlead, or_assoc]

/-! ## The open that follows (R86, R87) -/

/-- An event that leaves the repeat deadline's span is followed by the start conditions and the memory port's part. -/
theorem settle_of_span (s before : State) (h : s.usesIdle = before.usesIdle) :
    s.settle before = s.evaluateStart.settleMemory := by
  have hr : s.respan before = s := if_neg fun hc => hc.1 h
  rw [State.settle, hr]

/-- With no panel apply waiting, a candidate's scan opens as NEW. -/
theorem openScan_of_candidate {s : State} {k : Fin 5} (hw : s.relay.waitingPanel = none)
    (hc : s.candidate true = some k) : s.openScan = s.openAs .new (some k) s.pacing.repeatSource := by
  have hchoice : s.chooseScan = (.new, some k) := by rw [State.chooseScan, hc]
  rw [openScan_eq, installPanel_of_none s hw, hchoice]
  rfl

/-- What the open of slot k's NEW scan leaves, with the memory port's part after it. -/
structure OpensNew (s t : State) (k : Fin 5) : Prop where
  state : t.sco.state = .scanning
  figures : (t.slot k).scanned = (1, true, some (s.relayTime - (s.slot k).arrival))
  presented : t.pacing.presented = some k
  scan : t.sco.scan.map Scan.origin = some (.new, some k, s.relayTime)
  link : ∃ pixels, t.link = s.link ++ [.scanOpen .new, .line 0 pixels]

theorem opensNew_settleMemory {s : State} {k : Fin 5} (h : s.OnlyUnscanned k) (hw : s.relay.waitingPanel = none)
    (hc : s.candidate true = some k) : OpensNew s s.openScan.settleMemory k := by
  have hstate := (openScan_opens s).state
  have hview := openView_openAs_new s k s.pacing.repeatSource (olderUnscanned_of_only h)
  obtain ⟨pixels, hlink⟩ := link_openAs s .new (some k) s.pacing.repeatSource
  rw [← openScan_of_candidate hw hc] at hview hlink
  have hoff := offMemory_settleMemory s.openScan (by rw [hstate]; decide)
  exact
    { state := by rw [sco_of_offMemory hoff]; exact hstate
      figures := by rw [slot_of_offMemory hoff]; exact congrArg OpenView.slot hview
      presented := by rw [pacing_of_offMemory hoff]; exact congrArg OpenView.presented hview
      scan := by rw [sco_of_offMemory hoff]; exact congrArg OpenView.scan hview
      link := ⟨pixels, (link_of_offMemory hoff).trans hlink⟩ }

/-! ## The reach of the lead gate -/

/-- The lead gate's reach is marked in the slot's record. -/
def State.leadMarked (s : State) (k : Fin 5) : State := s.modSlot k fun r => { r with leadReached := true }

theorem slot_leadMarked (s : State) (k : Fin 5) : (s.leadMarked k).slot k = { s.slot k with leadReached := true } :=
  slot_modSlot_same _ _ _

theorem contract_leadMarked (s : State) (e : Env) (k : Fin 5) : ((s.arrive e).leadMarked k).contract = s.contract :=
  arrive_contract s e

theorem unscanned_leadMarked (s : State) (k j : Fin 5) : (s.leadMarked k).unscanned j = s.unscanned j := by
  by_cases hj : j = k
  · subst hj
    rw [State.unscanned, slot_leadMarked]
    rfl
  · rw [State.unscanned, State.leadMarked, slot_modSlot_other _ _ _ _ hj]
    rfl

theorem unscanned_arrive (s : State) (e : Env) (j : Fin 5) : (s.arrive e).unscanned j = s.unscanned j := by
  simp [State.unscanned]

theorem State.OnlyUnscanned.leadMarked {s : State} {k : Fin 5} (h : s.OnlyUnscanned k) (e : Env) :
    ((s.arrive e).leadMarked k).OnlyUnscanned k := fun j hj => by
  rw [unscanned_leadMarked, unscanned_arrive, h j hj]

/-- A due lead gate of a stored frame is marked, and the start conditions are evaluated. -/
theorem leadTaken_of_due {e : Env} {k : Fin 5} {d : Deadline} {s : State} (hstored : (s.slot k).state ≠ .free)
    (hd : (s.slot k).leadGate = some d) (hreached : (s.slot k).leadReached = false)
    (hdue : d.due (s.arrive e).relayTime = true) :
    (s.arrive e).leadTaken k = ((s.arrive e).leadMarked k).evaluateStart.settleMemory := by
  have hlead : (s.arrive e).leadDue k = true := by
    rw [State.leadDue, arrive_slot_state, arrive_slot_leadGate, arrive_slot_leadReached, hd, deadlineDue, hdue, hreached,
      decide_eq_true hstored]
    rfl
  rw [State.leadTaken, if_pos hlead]
  exact settle_of_span ((s.arrive e).leadMarked k) (s.arrive e) rfl

/-- The start conditions of a PASS frame whose lead gate is marked (R81). -/
theorem mayStart_leadMarked {s : State} {k : Fin 5} (hmode : (s.slot k).mode = some .pass) (e : Env) (gate : Bool) :
    (((s.arrive e).leadMarked k).slot k).mayStart ((s.arrive e).leadMarked k).contract.lf gate = true ↔
      (s.contract.lf ≤ (s.slot k).readyCount ∨ (s.slot k).state = .draining ∨ (s.slot k).state = .complete ∨
        (s.slot k).state = .short) ∧ gate = true := by
  rw [mayStart_pass (by rw [slot_leadMarked]; exact (arrive_slot_mode s e k).trans hmode) (by rw [slot_leadMarked]),
    slot_leadMarked, contract_leadMarked]
  dsimp only
  rw [arrive_slot_readyCount, arrive_slot_state]

/-- The marked frame has met its start conditions at the gate: READY slices enough, or no more to come (R80, R81). -/
theorem mem_candidates_leadMarked {e : Env} {k : Fin 5} {s : State} (husable : k.val < s.store.usable)
    (hstored : (s.slot k).state ≠ .free) (hmode : (s.slot k).mode = some .pass) (hnew : (s.slot k).newCount = 0)
    (hsuper : (s.slot k).superseded = false)
    (hslices : s.contract.lf ≤ (s.slot k).readyCount ∨ (s.slot k).state = .draining ∨ (s.slot k).state = .complete ∨
      (s.slot k).state = .short) : k ∈ ((s.arrive e).leadMarked k).candidates true := by
  have hunscanned : s.unscanned k = true := by simp [State.unscanned, husable, hstored, hnew, hsuper]
  exact (mem_candidates _ _ _).mpr ⟨(arrive_usable s e).symm ▸ husable,
    (unscanned_leadMarked _ k k).trans ((unscanned_arrive s e k).trans hunscanned),
    (mayStart_leadMarked hmode e true).mpr ⟨hslices, rfl⟩⟩

/-- Settles O22: the reach makes the one unscanned frame the candidate, whose NEW scan opens; a FILLING frame with too few
READY slices is none. -/
theorem leadGateOpensTheScan : Obligations.LeadGateOpensTheScan := by
  refine ⟨fun e k d s husable hstate hmode hnew hsuper hothers hd hreached hdue hready hidle hgate hwait => ?_,
    fun e k d s hstate hfew hmode hothers hd hreached hdue hready => ?_⟩
  · have hstored : (s.slot k).state ≠ .free := by
      rcases hstate with ⟨h, -⟩ | h | h | h <;> rw [h] <;> decide
    have htake := leadTaken_of_due hstored hd hreached hdue
    have honly : ((s.arrive e).leadMarked k).OnlyUnscanned k := State.OnlyUnscanned.leadMarked hothers e
    have hrelay : ((s.arrive e).leadMarked k).relay = s.relay := arrive_relay s e
    have hsco : ((s.arrive e).leadMarked k).sco = s.sco := arrive_sco s e
    have hcandidate := candidate_of_only honly
      (mem_candidates_leadMarked (e := e) husable hstored hmode hnew hsuper (hstate.imp_left And.right))
    have hmet : ((s.arrive e).leadMarked k).gateMet = true := by
      rw [State.gateMet, show ((s.arrive e).leadMarked k).pacing = s.pacing from arrive_pacing s e, hgate]
      rfl
    have hopen : ((s.arrive e).leadMarked k).evaluateStart = ((s.arrive e).leadMarked k).openScan :=
      if_pos ⟨by rw [hrelay]; exact hidle, by rw [hsco]; exact hready, by rw [hmet, hcandidate]; exact nofun⟩
    have ho := opensNew_settleMemory honly (by rw [hrelay]; exact hwait) hcandidate
    rw [hopen] at htake
    obtain ⟨pixels, hlink⟩ := ho.link
    obtain ⟨hcount, hunder, hlag⟩ : _ ∧ _ ∧ _ := by simpa only [Slot.scanned, Prod.mk.injEq] using ho.figures
    refine ⟨_, congrArg Host.Outcome.next htake, ho.state, hcount, hunder, ?_, ho.presented, ?_, ho.scan⟩
    · rw [hlag, slot_leadMarked]
      dsimp only
      rw [arrive_slot_arrival]
      rfl
    · rw [hlink, show ((s.arrive e).leadMarked k).link = [] from arrive_link s e]
      rfl
  · have htake := leadTaken_of_due (by rw [hstate]; decide) hd hreached hdue
    have hstart : ¬ (((s.arrive e).leadMarked k).slot k).mayStart ((s.arrive e).leadMarked k).contract.lf
        ((s.arrive e).leadMarked k).gateMet = true := by
      rw [mayStart_leadMarked hmode e, hstate]
      exact fun ⟨h, _⟩ => h.elim (Nat.not_le.mpr hfew) (by decide)
    have hnone := candidate_eq_none (State.OnlyUnscanned.leadMarked hothers e) (Bool.eq_false_iff.mpr hstart)
    have hstay : ((s.arrive e).leadMarked k).evaluateStart = (s.arrive e).leadMarked k := if_neg fun h => h.2.2 hnone
    rw [hstay] at htake
    have hoff := offMemory_settleMemory ((s.arrive e).leadMarked k)
      (by rw [show ((s.arrive e).leadMarked k).sco = s.sco from arrive_sco s e, hready]; decide)
    have hslot := (slot_of_offMemory hoff k).trans (slot_leadMarked _ k)
    exact ⟨_, congrArg Host.Outcome.next htake, (sco_of_offMemory hoff).trans (arrive_sco s e),
      (link_of_offMemory hoff).trans (arrive_link s e), by rw [hslot],
      by rw [hslot]; exact arrive_slot_newCount s e k⟩

end Sys2Proof.Machine
end

section
/-! The source line that a completed scan read hands to its scan (R104, R138). -/
namespace Sys2Proof.Machine

theorem deliver_of_still_to_come {c : Scan} {p : Placement} {y : Nat} (pixels : List Rgb) (hp : c.placement = some p)
    (hline : c.nextLine ≤ p.lastPanelLine y) : c.deliver y pixels = { c with lines := c.lines ++ [(y, pixels)] } := by
  rw [Scan.deliver, hp]
  exact if_pos hline

theorem exec_scanReadCompletion (e : Env) (r : ScanRead) (addr : Nat) (live : Bool) (s : State)
    (h : s.mpt.transfer = some (.scanRead r addr live)) :
    exec (.scanReadCompletion e) s = .next ((s.arrive e).finishScanRead r addr live).settleMemory := by
  show Host.Outcome.next (s.arrive e).scanReadDone = _
  rw [State.scanReadDone, arrive_mpt, h]

/-- Settles O17: the scan takes the line at the completion, and the memory port then leaves scan-out, link and pixels. -/
theorem scanReadDeliversTheLine : Obligations.ScanReadDeliversTheLine := by
  intro e r addr c p s ht hscan hp hline
  have hrest := offRest_settleMemory ((s.arrive e).finishScanRead r addr true)
  have houter := outer_settleMemory ((s.arrive e).finishScanRead r addr true)
  refine ⟨_, exec_scanReadCompletion e r addr true s ht, ?_, ?_, ?_⟩
  · rw [show State.sco (State.settleMemory _) = _ from (congrArg State.sco hrest :)]
    show (s.arrive e).sco.scan.map (fun x =>
      x.deliver r.line (readPixels (s.arrive e).mpt.frameMemory addr 0 r.width)) = _
    rw [arrive_sco, arrive_mpt, hscan, Option.map_some, deliver_of_still_to_come _ hp hline]
  · exact (congrArg Outer.frameMemory houter).trans (congrArg MemPort.frameMemory (arrive_mpt s e) :)
  · exact (congrArg State.link hrest :).trans (arrive_link s e)

end Sys2Proof.Machine
end

section
/-! A panel line: the fetch decisions taken there, and the LINE that is sent (R98, R100 to R102, R104, R105). -/
namespace Sys2Proof.Machine

/-! ## Fetch lines (R100) -/

theorem firstLine_injective {p : Placement} {i j : Nat} (hscale : 0 < p.scale) (hheight : 0 < p.sliceHeight)
    (h : p.firstLine i = p.firstLine j) : i = j :=
  Nat.eq_of_mul_eq_mul_left (Nat.mul_pos hscale hheight) (Nat.add_left_cancel h)

theorem mem_fetchedAt {p : Placement} {y : Nat} (hy : 0 < y) (i : Nat) :
    i ∈ p.fetchedAt y ↔ i < p.slices ∧ p.firstLine i = y + 2 * p.scale * p.sliceHeight := by
  rw [Placement.fetchedAt, List.mem_filter, List.mem_range, if_neg hy.ne', decide_eq_true_eq]

/-- Slices have distinct fetch lines, so a fetch line after panel line 0 is one slice's alone. -/
theorem fetchedAt_eq_singleton {p : Placement} {y j : Nat} (hy : 0 < y) (hscale : 0 < p.scale)
    (hheight : 0 < p.sliceHeight) (hj : j < p.slices)
    (hfetch : p.firstLine j = y + 2 * p.scale * p.sliceHeight) : p.fetchedAt y = [j] := by
  have hnodup : (p.fetchedAt y).Nodup := List.nodup_range.filter _
  refine List.perm_singleton.mp ((List.perm_ext_iff_of_nodup hnodup (List.nodup_singleton j)).mpr fun i => ?_)
  rw [mem_fetchedAt hy, List.mem_singleton]
  exact ⟨fun ⟨_, h⟩ => firstLine_injective hscale hheight (h.trans hfetch.symm), fun h => h ▸ ⟨hj, hfetch⟩⟩

/-- The slice that a panel line of the source region shows. -/
def Placement.shownSlice (p : Placement) (y : Nat) : Nat := p.sourceLine y / p.sliceHeight

/-- A shown slice's fetch line lies behind the scan. -/
theorem firstLine_ne_of_shown {p : Placement} {y : Nat} (hscale : 0 < p.scale) (hheight : 0 < p.sliceHeight)
    (hy : p.y0 ≤ y) : p.firstLine (p.shownSlice y) ≠ y + 2 * p.scale * p.sliceHeight := by
  have hpos : 0 < 2 * p.scale * p.sliceHeight := by positivity
  have hstart : p.scale * p.sliceHeight * ((y - p.y0) / (p.scale * p.sliceHeight)) ≤ y - p.y0 := Nat.mul_div_le _ _
  have hbehind : p.firstLine (p.shownSlice y) ≤ y := by
    rw [Placement.firstLine, Placement.shownSlice, Placement.sourceLine, Nat.div_div_eq_div_mul]
    omega
  omega

theorem shownSlice_not_fetched {p : Placement} {y : Nat} (hpos : 0 < y) (hscale : 0 < p.scale)
    (hheight : 0 < p.sliceHeight) (hy : p.y0 ≤ y) : p.shownSlice y ∉ p.fetchedAt y :=
  fun h => firstLine_ne_of_shown hscale hheight hy ((mem_fetchedAt hpos _).mp h).2

theorem showsLine_iff (p : Placement) (y : Nat) :
    p.showsLine y = true ↔ p.y0 ≤ y ∧ y < p.y0 + p.scale * p.height := by
  simp [Placement.showsLine]

/-! ## What fetch decisions leave of the scan (R102) -/

/-- A scan but for its decisions and their counts. -/
def Scan.offDecisions (c : Scan) : Scan := { c with decisions := [], late := 0, damaged := 0, bordered := 0 }

/-- From c to x, decisions of the slices in js are taken, and nothing else happens. -/
structure Scan.Fetched (js : List Nat) (c x : Scan) : Prop where
  rest : x.offDecisions = c.offDecisions
  other : ∀ i, i ∉ js → x.decisions[i]? = c.decisions[i]?

namespace Scan.Fetched

variable {js : List Nat} {c x : Scan} (h : Scan.Fetched js c x)
include h

theorem placement : x.placement = c.placement := (congrArg Scan.placement h.rest :)
theorem nextLine : x.nextLine = c.nextLine := (congrArg Scan.nextLine h.rest :)
theorem lines : x.lines = c.lines := (congrArg Scan.lines h.rest :)
theorem pw : x.pw = c.pw := (congrArg Scan.pw h.rest :)
theorem border : x.border = c.border := (congrArg Scan.border h.rest :)

theorem borderLine : x.borderLine = List.replicate c.pw c.border := by rw [Scan.borderLine, h.pw, h.border]

end Scan.Fetched

theorem decided_fetched (c : Scan) (j : Nat) (d : SliceDecision) : Scan.Fetched [j] c (c.decided j d) where
  rest := rfl
  other _ hi := List.getElem?_set_ne fun hj => hi (List.mem_singleton.mpr hj.symm)

theorem fetchSlice_fetched {s : State} {c : Scan} (j : Nat) (hscan : s.sco.scan = some c) :
    ∃ x, (s.fetchSlice j).sco.scan = some x ∧ Scan.Fetched [j] c x := by
  unfold State.fetchSlice
  rw [hscan]
  split
  · next h => exact nomatch h
  · next x h =>
    obtain rfl := Option.some.inj h
    split
    · extract_lets s1 r d s2
      refine ⟨c.decided j d, ?_, decided_fetched c j d⟩
      show s2.sco.scan = _
      rw [sco_reportSlice, State.modScan, sco_askFallback, sco_checkEntry, hscan]
      rfl
    · exact ⟨c, hscan, rfl, fun _ _ => rfl⟩

theorem foldl_fetchSlice_fetched (js : List Nat) {s : State} {c : Scan} (hscan : s.sco.scan = some c) :
    ∃ x, (js.foldl State.fetchSlice s).sco.scan = some x ∧ Scan.Fetched js c x := by
  induction js generalizing s c with
  | nil => exact ⟨c, hscan, rfl, fun _ _ => rfl⟩
  | cons j js ih =>
    obtain ⟨x, hx, hfirst⟩ := fetchSlice_fetched j hscan
    obtain ⟨z, hz, hrest⟩ := ih hx
    refine ⟨z, hz, hrest.rest.trans hfirst.rest, fun i hi => ?_⟩
    rw [List.mem_cons, not_or] at hi
    exact (hrest.other i hi.2).trans (hfirst.other i (mt List.mem_singleton.mp hi.1))

theorem fetchAt_of_placement {s : State} {c : Scan} {p : Placement} (y : Nat) (hscan : s.sco.scan = some c)
    (hp : c.placement = some p) : s.fetchAt y = (p.fetchedAt y).foldl State.fetchSlice s := by
  rw [State.fetchAt, hscan, Option.bind_some, hp]

/-- Of a scan of no placement no slice is fetched. -/
theorem fetchAt_fetched {s : State} {c : Scan} (y : Nat) (hscan : s.sco.scan = some c) :
    ∃ x, (s.fetchAt y).sco.scan = some x ∧ Scan.Fetched ((c.placement.map (·.fetchedAt y)).getD []) c x := by
  cases hp : c.placement with
  | none =>
    rw [State.fetchAt, hscan, Option.bind_some, hp]
    exact ⟨c, hscan, rfl, fun _ _ => rfl⟩
  | some p =>
    rw [fetchAt_of_placement y hscan hp]
    exact foldl_fetchSlice_fetched _ hscan

/-! ## The decision of one slice (R101, R102) -/

/-- An arrival flips check bits of an entry, not its state. -/
theorem arrive_entry_state (s : State) (e : Env) (k : Fin 5) (j : Nat) :
    (((s.arrive e).slot k).entry j).state = ((s.slot k).entry j).state := by
  have hstrike : ∀ (t : State) (u : Upset), (((t.strike u).slot k).entry j).state = ((t.slot k).entry j).state :=
    fun t u => by
      by_cases hk : k = u.slot
      · subst hk
        rw [State.strike, slot_modSlot_same, entry_setEntry _ _ _ _ u.slice.isLt]
        split
        · next hj => rw [hj]; rfl
        · rfl
      · rw [State.strike, slot_modSlot_other _ _ _ _ hk]
  exact foldl_keeps (fun t => ((t.slot k).entry j).state) State.strike hstrike e.upsets _

/-- With good check bits a read of the fallback's entry changes nothing, and the fallback covers the slice as R101 and
R102 say. -/
theorem askFallback_of_good {s : State} {c : Scan} (k : Fin 5) {j : Nat}
    (hgood : ∀ b, c.fallback = some b → ((s.slot b).entry j).check = .good) :
    (s.askFallback c k j).1 = s ∧ (((s.slot k).entry j).state ≠ .ready → ((s.askFallback c k j).2 = true ↔
      c.fallbackUsable = true ∧ ∃ b, c.fallback = some b ∧ b ≠ k ∧ ((s.slot b).entry j).state = .ready)) := by
  unfold State.askFallback
  split
  · next h =>
    refine ⟨rfl, fun hstate => ?_⟩
    have hno : c.fallbackUsable = false := by simpa [hstate] using h
    simp [hno]
  · next h =>
    have husable : c.fallbackUsable = true := by
      rw [Bool.or_eq_true, not_or, Bool.not_eq_true', Bool.not_eq_false] at h
      exact h.2
    cases hb : c.fallback with
    | none => simp
    | some b =>
      by_cases hk : b = k
      · simp [hk]
      · simp [hk, husable, checkEntry_of_good s b j (hgood b hb)]

theorem mpt_reportSlice (s : State) (cls : Option SliceClass) : (s.reportSlice cls).mpt = s.mpt := by
  unfold State.reportSlice
  split <;> rfl

/-- The decision of slice j of a scan of slot k. -/
def State.decisionFor (s : State) (c : Scan) (k : Fin 5) (j : Nat) : SliceDecision :=
  decideSlice ((s.slot k).entry j).state (s.askFallback c k j).2

/-- With good check bits a fetch takes the decision and requests its reads, and leaves the rest of the memory port. -/
theorem fetchSlice_of_good {s : State} {c : Scan} {p : Placement} {k : Fin 5} {j : Nat} (hscan : s.sco.scan = some c)
    (hslot : c.slot = some k) (hp : c.placement = some p) (hgood : ((s.slot k).entry j).check = .good)
    (hfallback : ∀ b, c.fallback = some b → ((s.slot b).entry j).check = .good) :
    (s.fetchSlice j).sco.scan = some (c.decided j (s.decisionFor c k j)) ∧
      (s.fetchSlice j).mpt = { s.mpt with
        scanReads := s.mpt.scanReads ++ readsFor p j (c.sourceOf (s.decisionFor c k j)) } := by
  have hsame : s.checkEntry k j = s := checkEntry_of_good s k j hgood
  simp only [State.fetchSlice, hscan, hslot, hp, hsame, (askFallback_of_good k hfallback).1, mpt_reportSlice,
    sco_reportSlice]
  exact ⟨by rw [State.modScan, hscan]; rfl, rfl⟩

theorem decided_counts (c : Scan) (j : Nat) (d : SliceDecision) :
    (c.decided j d).late = c.late + (if d.cls = some .late then 1 else 0) ∧
      (c.decided j d).damaged = c.damaged + (if d.cls = some .damaged then 1 else 0) ∧
      (c.decided j d).bordered = c.bordered + (if d.choice = .border then 1 else 0) := by
  have hcount : ∀ (q : Prop) [Decidable q] (n : Nat), (if q then n + 1 else n) = n + (if q then 1 else 0) :=
    fun q _ n => by split <;> rfl
  exact ⟨hcount _ _, hcount _ _, hcount _ _⟩

/-- The slot a decided slice is read from, by cases on the choice. -/
theorem sourceOf_eq (c : Scan) (d : SliceDecision) : c.sourceOf d =
    if d.choice = .scanned then c.slot else if d.choice = .fallback then c.fallback else none := by
  rw [Scan.sourceOf]
  cases d.choice <;> rfl

/-- A slice that is not READY is covered by the fallback, or drawn as border. -/
theorem decisionFor_of_not_ready {s : State} {c : Scan} {k : Fin 5} {j : Nat}
    (h : ((s.slot k).entry j).state ≠ .ready) : s.decisionFor c k j =
      { choice := if (s.askFallback c k j).2 then .fallback else .border
        cls := some (classOf ((s.slot k).entry j).state) } := by
  rw [State.decisionFor, decideSlice, if_neg h]

theorem decisionFor_of_ready {s : State} {c : Scan} {k : Fin 5} {j : Nat} (h : ((s.slot k).entry j).state = .ready) :
    s.decisionFor c k j = { choice := .scanned, cls := some .good } := by
  rw [State.decisionFor, decideSlice, if_pos h, h]
  rfl

/-! ## The pixels of the line (R104, R105) -/

/-- The line shows no source: a BORDER scan, or outside the source region. -/
theorem baseLine_outside {c : Scan} {y : Nat} (u : State)
    (h : c.placement = none ∨ ∃ p, c.placement = some p ∧ (y < p.y0 ∨ p.y0 + p.scale * p.height ≤ y)) :
    u.baseLine c y = (u, c.borderLine) := by
  rcases h with hp | ⟨p, hp, hout⟩ <;> rw [State.baseLine, hp]
  refine if_neg fun hshow => ?_
  obtain ⟨htop, hbottom⟩ := (showsLine_iff p y).mp hshow
  omega

section
variable {c : Scan} {p : Placement} {y : Nat} {d : SliceDecision} (u : State) (hp : c.placement = some p)
  (hshow : p.showsLine y = true) (hd : c.decisions[p.shownSlice y]? = some d)
include hp hshow hd

theorem baseLine_border (hchoice : d.choice = .border) : u.baseLine c y = (u, c.borderLine) := by
  have hd' : c.decisions[p.sourceLine y / p.sliceHeight]? = some d := hd
  simp only [State.baseLine, hp, hshow, hd', Option.getD_some, hchoice, if_true]

/-- A slice to be shown is drawn from its delivered line, and as border without one. -/
theorem baseLine_source (hchoice : d.choice = .scanned ∨ d.choice = .fallback) : u.baseLine c y =
    match u.deliveredLine c p (p.sourceLine y) d with
    | some pixels => (u, c.placeLine p pixels)
    | none => (u.missedRead (p.shownSlice y) d, c.borderLine) := by
  have hd' : c.decisions[p.sourceLine y / p.sliceHeight]? = some d := hd
  rcases hchoice with hchoice | hchoice <;>
    simp only [State.baseLine, hp, hshow, hd', Option.getD_some, hchoice, if_true] <;> rfl

end

theorem deliveredLine_of_delivered {c : Scan} {y : Nat} {row : List Rgb} (u : State) (p : Placement)
    (d : SliceDecision) (h : (c.lines.find? fun x => decide (x.1 = y)) = some (y, row)) :
    u.deliveredLine c p y d = some row := by
  rw [State.deliveredLine, h]

theorem deliveredLine_of_missing {c : Scan} {y : Nat} (u : State) (p : Placement) (d : SliceDecision)
    (hline : 0 < c.nextLine) (h : (c.lines.find? fun x => decide (x.1 = y)) = none) :
    u.deliveredLine c p y d = none := by
  rw [State.deliveredLine, h]
  exact if_neg fun hz => hline.ne' hz.1

/-- A line is drawn with the state left alone, or as one of a slice without its read. -/
theorem baseLine_state (u : State) (c : Scan) (y : Nat) : (u.baseLine c y).1 = u ∨
    ∃ p d, c.placement = some p ∧ p.showsLine y = true ∧ (u.baseLine c y).1 = u.missedRead (p.shownSlice y) d := by
  unfold State.baseLine
  cases hp : c.placement with
  | none => exact .inl rfl
  | some p =>
    by_cases hshow : p.showsLine y = true
    · simp only [hshow, if_true]
      have hmiss : ∀ d, ∃ q d', some p = some q ∧ q.showsLine y = true ∧
          u.missedRead (p.shownSlice y) d = u.missedRead (q.shownSlice y) d' := fun d => ⟨p, d, rfl, hshow, rfl⟩
      split
      · exact .inl rfl
      · exact .inl rfl
      all_goals
        split
        · exact .inl rfl
        · exact .inr (hmiss _)
    · simp [hshow]

theorem missedRead_scan {u : State} {c : Scan} (j : Nat) (d : SliceDecision) (hscan : u.sco.scan = some c) :
    (u.missedRead j d).sco.scan = some (c.reclass j d) := by
  rw [State.missedRead, sco_reportSlice, State.modScan, hscan]
  rfl

theorem missedRead_mpt (u : State) (j : Nat) (d : SliceDecision) : (u.missedRead j d).mpt = u.mpt :=
  mpt_reportSlice _ _

/-- GOOD becomes LATE, and the scan has drawn border for want of a read. -/
theorem reclass_decision {c : Scan} {j : Nat} {d : SliceDecision} (h : c.decisions[j]? = some d) :
    ((c.reclass j d).drewBorder, (c.reclass j d).decisions[j]?) =
      (true, some { d with cls := if d.cls = some .good then some .late else d.cls }) := by
  obtain ⟨hj, -⟩ := List.getElem?_eq_some_iff.mp h
  unfold Scan.reclass
  split
  · simp [hj]
  · simp [h]

theorem reclass_keeps (c : Scan) (j : Nat) (d : SliceDecision) : (c.reclass j d).damaged = c.damaged ∧
    (c.reclass j d).bordered = c.bordered ∧ ∀ i, i ≠ j → (c.reclass j d).decisions[i]? = c.decisions[i]? := by
  unfold Scan.reclass
  split
  · exact ⟨rfl, rfl, fun i hi => List.getElem?_set_ne hi.symm⟩
  · exact ⟨rfl, rfl, fun _ _ => rfl⟩

/-! ## The panel line (R98) -/

/-- The scan once panel line y is drawn. -/
def Scan.drawn (c : Scan) (y : Nat) : Scan := ({ c with nextLine := y + 1 } : Scan).release

theorem drawn_eq (c : Scan) (y : Nat) : c.drawn y = { c with nextLine := y + 1, lines := (c.drawn y).lines } := by
  unfold Scan.drawn Scan.release
  split <;> rfl

/-- What SCAN_LINE gives, in terms of the state u and the scan x that the fetch decisions of the line leave. -/
structure LineSent (s u : State) (c x : Scan) (t : State) : Prop where
  fetched : Scan.Fetched ((c.placement.map (·.fetchedAt c.nextLine)).getD []) c x
  scanHeld : u.sco.scan = some x
  link : t.link = [.line c.nextLine (s.ovl.composeLine c.nextLine (u.baseLine x c.nextLine).2)]
  state : t.sco.state = .scanning
  scan : t.sco.scan = (u.baseLine x c.nextLine).1.sco.scan.map fun z => z.drawn c.nextLine
  reads : u.mpt.transfer ≠ none → t.mpt.scanReads = u.mpt.scanReads

/-- While a transfer is in progress the arbiter grants nothing. -/
theorem mpt_settleMemory_of_busy {s : State} (hscan : s.sco.state ≠ .holding) (hbusy : s.mpt.transfer ≠ none) :
    s.settleMemory.mpt = s.mpt := by
  have hwait : s.dropDeadHeads.arbitrate = s.dropDeadHeads := if_neg fun h => hbusy (mpt_dropDeadHeads s ▸ h.2)
  rw [settleMemory_of_not_holding s hscan, hwait, mpt_dropDeadHeads]

theorem mpt_baseLine (u : State) (c : Scan) (y : Nat) : (u.baseLine c y).1.mpt = u.mpt := by
  rcases baseLine_state u c y with h | ⟨p, d, -, -, h⟩ <;> rw [h]
  exact missedRead_mpt u _ d

theorem exec_scanLine {e : Env} {c : Scan} {s : State} (hstate : s.sco.state = .scanning) (hscan : s.sco.scan = some c)
    (hline : c.nextLine < c.ph) (hdue : c.span * c.nextLine / c.ph ≤ ((s.arrive e).relayTime - c.openTime).toNat) :
    ∃ t x, exec (.scanLine e) s = .next t ∧ LineSent s ((s.arrive e).fetchAt c.nextLine) c x t := by
  have hscan' : (s.arrive e).sco.scan = some c := by rw [arrive_sco, hscan]
  have hdue' : (c.lineDeadline c.nextLine).due (s.arrive e).relayTime = true := decide_eq_true hdue
  have htake : (s.arrive e).lineTaken = (s.arrive e).drawNext.settle (s.arrive e) := by
    rw [State.lineTaken, hscan']
    exact if_pos ⟨hline, hdue'⟩
  have hscanning : (s.arrive e).drawNext.sco.state = .scanning := by
    rw [(steady_drawNext _).scanOut]
    exact (congrArg ScanOut.state (arrive_sco s e)).trans hstate
  obtain ⟨x, hx, hfetched⟩ := fetchAt_fetched c.nextLine hscan'
  have hbase := steady_baseLine ((s.arrive e).fetchAt c.nextLine) x c.nextLine
  have hlink := hbase.link.trans ((steady_fetchAt (s.arrive e) c.nextLine).link.trans (arrive_link s e))
  have hdraw : (s.arrive e).drawNext =
      ((((s.arrive e).fetchAt c.nextLine).baseLine x c.nextLine).1.modScan fun z => z.drawn c.nextLine).send
        (.line c.nextLine (s.ovl.composeLine c.nextLine
          (((s.arrive e).fetchAt c.nextLine).baseLine x c.nextLine).2)) := by
    simp only [State.drawNext, hscan', hx, arrive_ovl]
    rfl
  have hmpt := mpt_baseLine ((s.arrive e).fetchAt c.nextLine) x c.nextLine
  have hoff := offMemory_settle_of_scanning (s.arrive e).drawNext (s.arrive e) hscanning
  refine ⟨_, x, congrArg Host.Outcome.next htake, hfetched, hx, ?_, ?_, ?_, fun hbusy => ?_⟩
  · rw [link_of_offMemory hoff, hdraw, State.send]
    exact congrArg (· ++ _) hlink
  · rw [sco_of_offMemory hoff, hscanning]
  · rw [sco_of_offMemory hoff, hdraw]
    rfl
  · have hmpt' : (s.arrive e).drawNext.mpt = ((s.arrive e).fetchAt c.nextLine).mpt := by rw [hdraw]; exact hmpt
    rw [settle_of_not_ready _ _ (by rw [hscanning]; decide),
      mpt_settleMemory_of_busy (by rw [hscanning]; decide) (by rw [hmpt']; exact hbusy), hmpt']

namespace LineSent

variable {s u : State} {c x : Scan} {t : State} (h : LineSent s u c x t)
include h

/-- Drawn with the state left alone, the scan differs from the one with its fetch decisions in its next line only. -/
theorem scan_of_drawn (hbase : (u.baseLine x c.nextLine).1 = u) : t.sco.scan = some (x.drawn c.nextLine) := by
  rw [h.scan, hbase, h.scanHeld]
  rfl

theorem scan_of_missed {j : Nat} {d : SliceDecision} (hbase : (u.baseLine x c.nextLine).1 = u.missedRead j d) :
    t.sco.scan = some ((x.reclass j d).drawn c.nextLine) := by
  rw [h.scan, hbase, missedRead_scan j d h.scanHeld]
  rfl

/-- The scan goes on with the same next line, whichever way the line was drawn. -/
theorem nextLine : (t.sco.scan.map fun z => z.nextLine) = some (c.nextLine + 1) := by
  rcases baseLine_state u x c.nextLine with hb | ⟨p, d, -, -, hb⟩
  · rw [h.scan_of_drawn hb, drawn_eq]; rfl
  · rw [h.scan_of_missed hb, drawn_eq]; rfl

/-- The drawing of the line reclasses at most the slice it shows. -/
theorem drawn_keeps : ∃ z, t.sco.scan = some z ∧ z.damaged = x.damaged ∧ z.bordered = x.bordered ∧
    ∀ i, (∀ p, x.placement = some p → p.showsLine c.nextLine = true → i ≠ p.shownSlice c.nextLine) →
      z.decisions[i]? = x.decisions[i]? := by
  rcases baseLine_state u x c.nextLine with hb | ⟨p, d, hp, hshow, hb⟩
  · refine ⟨_, h.scan_of_drawn hb, ?_⟩
    rw [drawn_eq]
    exact ⟨rfl, rfl, fun _ _ => rfl⟩
  · obtain ⟨hdamaged, hbordered, hother⟩ := reclass_keeps x (p.shownSlice c.nextLine) d
    refine ⟨_, h.scan_of_missed hb, ?_⟩
    rw [drawn_eq]
    exact ⟨hdamaged, hbordered, fun i hi => hother i (hi p hp hshow)⟩

end LineSent

/-! ## SCAN_LINE -/

/-- The fetch decision of a slice whose fetch line is panel line y outlasts the drawing of that line, which shows another
slice. -/
theorem LineSent.decision_outlasts {s u : State} {c x : Scan} {t : State} (h : LineSent s u c x t) {p : Placement}
    {j : Nat} (hp : c.placement = some p) (hscale : 0 < p.scale) (hheight : 0 < p.sliceHeight)
    (hfetch : p.firstLine j = c.nextLine + 2 * p.scale * p.sliceHeight) :
    ∃ z, t.sco.scan = some z ∧ z.damaged = x.damaged ∧ z.bordered = x.bordered ∧
      z.decisions[j]? = x.decisions[j]? := by
  obtain ⟨z, hz, hdamaged, hbordered, hother⟩ := h.drawn_keeps
  refine ⟨z, hz, hdamaged, hbordered, hother j fun q hq hshow hshown => ?_⟩
  cases hq.symm.trans (h.fetched.placement.trans hp)
  obtain ⟨htop, -⟩ := (showsLine_iff p c.nextLine).mp hshow
  exact firstLine_ne_of_shown hscale hheight htop (hshown ▸ hfetch)

/-- Settles O27: the fetch decisions of a panel line are never those of the slice it shows, so the line is drawn from the
decision that stood before, and the fetched slice's decision outlasts the drawing. -/
theorem scanLineSendsOneLine : Obligations.ScanLineSendsOneLine := by
  refine ⟨fun e c s hstate hscan hline hdue => ?_,
    fun e c p line j d s hstate hscan hp hpos hline hdue hscale hheight htop hbottom hsource hj hd => ?_,
    fun e c p k j s hstate hscan hp hslot hpos hline hdue hscale hheight hj hlen hfetch hgood hfallback => ?_⟩
  all_goals obtain ⟨t, x, hexec, hsent⟩ := exec_scanLine hstate hscan hline hdue
  · refine ⟨t, _, hexec, hsent.link, ?_, hsent.nextLine, hsent.state, fun hout => ?_⟩
    · rw [Overlay.composeLine, List.length_map, List.length_zipIdx, length_baseLine, hsent.fetched.pw]
    · rw [baseLine_outside _ (hsent.fetched.placement ▸ hout), hsent.fetched.borderLine]
  · subst hsource hj
    have hfetched := hsent.fetched
    rw [hp, Option.map_some, Option.getD_some] at hfetched
    have hxp := hfetched.placement.trans hp
    have hshow := (showsLine_iff p c.nextLine).mpr ⟨htop, hbottom⟩
    have hxd : x.decisions[p.shownSlice c.nextLine]? = some d :=
      (hfetched.other _ (shownSlice_not_fetched hpos hscale hheight htop)).trans hd
    refine ⟨t, _, hexec, hsent.link, fun hchoice => ?_, fun hchoice => ?_⟩
    · rw [baseLine_border _ hxp hshow hxd hchoice, hfetched.borderLine]
    · have hbase := baseLine_source ((s.arrive e).fetchAt c.nextLine) hxp hshow hxd hchoice
      refine ⟨fun row hrow => ?_, fun hmissing => ?_⟩
      · rw [deliveredLine_of_delivered _ p d (hfetched.lines ▸ hrow)] at hbase
        rw [hbase]
        show x.placeLine p row = _
        rw [Scan.placeLine, hfetched.pw, hfetched.border]
      · rw [deliveredLine_of_missing _ p d (hfetched.nextLine ▸ hpos) (hfetched.lines ▸ hmissing)] at hbase
        refine ⟨(congrArg Prod.snd hbase).trans hfetched.borderLine, ?_⟩
        rw [hsent.scan_of_missed (congrArg Prod.fst hbase), drawn_eq]
        exact congrArg some (reclass_decision hxd)
  · have hscan' : (s.arrive e).sco.scan = some c := by rw [arrive_sco, hscan]
    have hfetchAt : (s.arrive e).fetchAt c.nextLine = (s.arrive e).fetchSlice j := by
      rw [fetchAt_of_placement _ hscan' hp, fetchedAt_eq_singleton hpos hscale hheight hj hfetch]
      rfl
    obtain ⟨hdecided, hmpt⟩ := fetchSlice_of_good hscan' hslot hp hgood hfallback
    rw [hfetchAt] at hsent
    obtain rfl : x = c.decided j ((s.arrive e).decisionFor c k j) :=
      Option.some.inj (hsent.scanHeld.symm.trans hdecided)
    have hready := decisionFor_of_ready (s := s.arrive e) (c := c) (k := k) (j := j)
    have hnot := decisionFor_of_not_ready (s := s.arrive e) (c := c) (k := k) (j := j)
    have hcover := (askFallback_of_good k hfallback).2
    simp only [arrive_entry_state] at hready hnot hcover
    generalize (s.arrive e).decisionFor c k j = d at hsent hmpt hready hnot
    obtain ⟨hlate, hdamaged, hbordered⟩ := decided_counts c j d
    obtain ⟨z, hz, hzdamaged, hzbordered, hzd⟩ := hsent.decision_outlasts hp hscale hheight hfetch
    refine ⟨t, d, hexec, ?_, hready, fun hentry => ?_, fun hentry => ?_, fun hentry => ?_, ?_, fun hout => ?_,
      fun hbusy => ?_⟩
    · rw [hz]
      exact hzd.trans (List.getElem?_set_self hlen)
    · rcases hentry with hentry | hentry <;> rw [hnot (by rw [hentry]; decide), hentry] <;> rfl
    · rw [hnot (by rw [hentry]; decide), hentry]
      rfl
    · rw [hnot hentry]
      exact if_congr (hcover hentry) rfl rfl
    · rw [hz, Option.map_some, hzdamaged, hzbordered, hdamaged, hbordered]
    · have hbase := baseLine_outside ((s.arrive e).fetchSlice j) (c := c.decided j d) (.inr ⟨p, hp, hout⟩)
      rw [hsent.scan_of_drawn (congrArg Prod.fst hbase), drawn_eq, Option.map_some, hlate]
    · rw [hsent.reads (by rw [hmpt, arrive_mpt]; exact hbusy), hmpt, arrive_mpt, sourceOf_eq, hslot]
      rfl

end Sys2Proof.Machine
end

section
/-! The blend of one pixel: combined alpha, weight and components (R121). -/
namespace Sys2Proof.Machine

/-! ## Combined alpha and weight -/

theorem combinedAlpha_le {pa la : Nat} (hpa : pa ≤ 255) (hla : la ≤ 255) : combinedAlpha pa la ≤ 255 := by
  have hmul : pa * la ≤ 255 * 255 := Nat.mul_le_mul hpa hla
  rw [combinedAlpha]
  omega

/-- An opaque palette entry leaves the plane alpha. -/
theorem combinedAlpha_opaque (pa : Nat) : combinedAlpha pa 255 = pa := by
  rw [combinedAlpha]
  omega

theorem blendWeight_le {a : Nat} (ha : a ≤ 255) : blendWeight a ≤ 256 := by
  rw [blendWeight]
  omega

/-! ## The blend -/

/-- A weighted mean of two components is a component again, so that its 12 bits hold it. -/
theorem toNat_blendComponent (base top : Component) {e : Nat} (he : e ≤ 256) :
    (blendComponent base top e).toNat = (base.toNat * (256 - e) + top.toNat * e + 128) / 256 := by
  have hbase : base.toNat * (256 - e) ≤ 4095 * (256 - e) := Nat.mul_le_mul_right _ (Nat.le_of_lt_succ base.isLt)
  have htop : top.toNat * e ≤ 4095 * e := Nat.mul_le_mul_right _ (Nat.le_of_lt_succ top.isLt)
  rw [blendComponent, BitVec.toNat_ofNat, Nat.mod_eq_of_lt (by omega)]

theorem blendComponent_zero (base top : Component) : blendComponent base top 0 = base := by
  apply BitVec.eq_of_toNat_eq
  rw [toNat_blendComponent base top (by decide)]
  omega

theorem blendComponent_full (base top : Component) : blendComponent base top 256 = top := by
  apply BitVec.eq_of_toNat_eq
  rw [toNat_blendComponent base top le_rfl]
  omega

/-- Weight 0 shows the base. -/
theorem blend_zero (base top : Rgb) : blend base top 0 = base := by
  simp only [blend, blendComponent_zero]

/-- Weight 256 shows the plane's colour. -/
theorem blend_full (base top : Rgb) : blend base top 256 = top := by
  simp only [blend, blendComponent_full]

/-- Settles O30: the weight is at most 256, so each component holds the weighted mean; alpha 255 has weight 256, alpha 0
weight 0. -/
theorem blendOfOnePixel : Obligations.BlendOfOnePixel := by
  intro base top pa la a e hpa hla ha he
  obtain rfl : a = combinedAlpha pa la := ha
  obtain rfl : e = blendWeight (combinedAlpha pa la) := he
  have halpha := combinedAlpha_le hpa hla
  have hweight := blendWeight_le halpha
  refine ⟨halpha, hweight, toNat_blendComponent _ _ hweight, toNat_blendComponent _ _ hweight,
    toNat_blendComponent _ _ hweight, fun hopaque => ?_, fun hfull => ?_, fun hclear => ?_⟩
  · rw [hopaque, combinedAlpha_opaque]
  · rw [hfull]
    exact blend_full base top
  · rw [hclear]
    exact blend_zero base top

end Sys2Proof.Machine
end

section
/-! COMMIT_OVERLAY: the snapshot, and the end of a hold (R114, R115, R126, R127, R131). -/
namespace Sys2Proof.Machine

/-! ## The commit (R114, R115) -/

/-- The overlay unit with a snapshot of its pending list as the waiting commit. -/
def Overlay.committed (o : Overlay) : Overlay :=
  { o with
    commitNumber := o.commitNumber + 1
    waiting := some (o.commitNumber + 1, o.pendingList)
    replaced := if o.waiting.isSome then satInc 255 o.replaced else o.replaced }

/-- The state with the commit of a COMMIT_OVERLAY taken. -/
def State.commitTaken (s : State) : State := { s with ovl := s.ovl.committed }

theorem requestCommit_eq (s : State) : s.requestCommit = (s.commitTaken.triggerExit .commit, .ok) := rfl

/-- A commit that waited is replaced and counted, up to 255. -/
theorem Overlay.committed_replaced (o : Overlay) :
    o.committed.replaced = if o.waiting = none then o.replaced else min (o.replaced + 1) 255 := by
  cases h : o.waiting <;> simp [Overlay.committed, satInc, h]

theorem exec_commitOverlay (e : Env) (p : Port) (data : List Byte) (s : State) (htxn : (s.port p).txn = none)
    (hr : s.hasRight p .overlay = true) : exec (.commitOverlay e ⟨p, data⟩) s =
      .next (((s.arrive e).commitTaken.triggerExit .commit).endTxn p .ok (zeros data.length)) := by
  show Host.Outcome.next ((s.openPort e p).request p .overlay data State.requestCommit) = _
  rw [openPort_of_no_txn _ _ _ htxn, request_granted _ _ _ _ _ ((arrive_hasRight s e p .overlay).trans hr),
    requestCommit_eq]

/-! ## The end of a hold (R126, R127, R131) -/

theorem triggerExit_of_not_holding (s : State) (t : HoldTrigger) (h : s.sco.state ≠ .holding) : s.triggerExit t = s :=
  if_neg h

/-- With PANEL READY low and X above 0 the panel wakes for a time: no scan opens at the exit. -/
theorem exitHold_of_wait (s : State) (t : HoldTrigger) (h : s.sco.state = .holding) (hlow : s.panelReady = false)
    (hx : 0 < s.contract.x) : s.exitHold t = (s.beginWake t).wakeMemory := by
  have hw := steady_wakeMemory (s.beginWake t)
  have hready : (s.beginWake t).wakeMemory.panelReady = false := hw.panelReady.trans hlow
  have hspan : (s.beginWake t).wakeMemory.contract.x ≠ 0 := by
    rw [hw.contract]
    exact hx.ne'
  rw [exitHold_of_holding s t h, hready, if_neg Bool.false_ne_true, if_neg hspan]

/-- A memory in self-refresh begins to wake, its exit deadline E from now. -/
theorem mpt_wakeMemory_of_selfRefresh (s : State) (h : s.mpt.power = .selfRefresh) : s.wakeMemory.mpt = { s.mpt with
    power := .waking, exitDeadline := some { origin := s.relayTime, span := s.contract.e } } := by
  rw [State.wakeMemory, if_pos h]

/-- A hold exit that waits for the panel: what follows it leaves the wake begun, and a memory that rested wakes too. -/
theorem triggerExit_of_wait (s : State) (t : HoldTrigger) (h : s.sco.state = .holding) (hlow : s.panelReady = false)
    (hx : 0 < s.contract.x) : (s.triggerExit t).still = (s.beginWake t).still ∧
      (s.mpt.power = .selfRefresh → (s.triggerExit t).mpt.power = .waking ∧
        (s.triggerExit t).mpt.exitDeadline = some { origin := s.relayTime, span := s.contract.e }) := by
  have hw := steady_wakeMemory (s.beginWake t)
  have hwaking : (s.beginWake t).wakeMemory.sco.state = .waking := hw.scanOut
  have htrigger : s.triggerExit t = (s.beginWake t).wakeMemory.settleMemory := by
    rw [State.triggerExit, if_pos h, exitHold_of_wait s t h hlow hx, settle_of_not_ready _ _ (by rw [hwaking]; decide)]
  rw [htrigger]
  refine ⟨(steady_settleMemory _).still.trans hw.still, fun hpower => ?_⟩
  have hstand := standing_settleMemory (s.beginWake t).wakeMemory (by rw [hwaking]; decide)
  rw [mpt_wakeMemory_of_selfRefresh (s.beginWake t) hpower] at hstand
  obtain ⟨hwake, hexit, -⟩ : _ ∧ _ ∧ _ := by simpa only [MemPort.standing, Prod.mk.injEq] using hstand
  exact ⟨hwake, hexit⟩

/-! ## COMMIT_OVERLAY -/

/-- Settles O44: away from a hold the request is the snapshot alone; in one, a wake begins with it. -/
theorem commitTakesASnapshot : Obligations.CommitTakesASnapshot := by
  refine ⟨fun e p data s htxn hr hhold => ?_, fun e p data s htxn hr hhold hlow hx => ?_⟩
  all_goals
    have hexec := exec_commitOverlay e p data s htxn hr
    have hovl : (s.arrive e).commitTaken.ovl = s.ovl.committed := congrArg Overlay.committed (arrive_ovl s e)
    have hsco : (s.arrive e).commitTaken.sco = s.sco := arrive_sco s e
  · rw [triggerExit_of_not_holding _ _ (by rw [hsco]; exact hhold)] at hexec
    have hport : ∀ q, (s.arrive e).commitTaken.port q = s.port q := arrive_port s e
    have hpeu : ({ (s.arrive e).peu with ports := s.peu.ports } : Peu) = s.peu := by rw [arrive_peu]
    refine ⟨_, hexec, ?_, congrArg Overlay.commitNumber hovl, congrArg Overlay.waiting hovl,
      (congrArg Overlay.replaced hovl).trans s.ovl.committed_replaced, (congrArg Overlay.pendingList hovl :),
      (congrArg Overlay.active hovl :), (congrArg Overlay.memory hovl :), (congrArg Overlay.report hovl :), rfl, hpeu,
      fun q hq => ?_, ?_⟩
    · rw [port_endTxn_same]
      rfl
    · rw [port_endTxn_other _ _ _ _ _ hq, hport]
    · rw [port_endTxn_same, hport]
      exact ⟨rfl, rfl, rfl, rfl⟩
  · have hcontract : (s.arrive e).commitTaken.contract = s.contract := arrive_contract s e
    have hmpt : (s.arrive e).commitTaken.mpt = s.mpt := arrive_mpt s e
    obtain ⟨hstill, hpower⟩ := triggerExit_of_wait (s.arrive e).commitTaken .commit (by rw [hsco]; exact hhold) hlow
      (by rw [hcontract]; exact hx)
    have hlink : (s.arrive e).link ++ [Marker.holdExit] = [.holdExit] := by rw [arrive_link]; rfl
    have hspan : ((s.arrive e).commitTaken.beginWake .commit).sco.wakeDeadline =
        some { origin := (s.arrive e).relayTime, span := s.contract.x } := by rw [← hcontract]; rfl
    rw [hcontract, hmpt] at hpower
    exact ⟨_, hexec, congrArg Still.scanOut hstill, (congrArg Still.link hstill).trans hlink,
      congrArg Still.lastHoldExit hstill, (congrArg Still.wakeDeadline hstill).trans hspan, hpower,
      congrArg Overlay.waiting ((congrArg Still.ovl hstill).trans hovl)⟩

end Sys2Proof.Machine
end

section
/-! The memory port's capture reads and refreshes: what a completion, a wait deadline and the refresh timer leave behind
them (R135, R139, R140, R150, R160). -/
namespace Sys2Proof.Machine

/-! ## A port's capture read -/

/-- The capture read a port has at the memory port, with the port's open transaction. -/
def State.captureAt (s : State) (p : Port) : Option CaptureRead × Option CaptureTxn :=
  (s.mpt.capture.get p, (s.port p).txn)

theorem captureAt_arrive (s : State) (e : Env) (p : Port) : (s.arrive e).captureAt p = s.captureAt p := by
  rw [State.captureAt, arrive_mpt, arrive_port]
  rfl

/-- The read that ends leaves the queue, and its result reaches the transaction that waits for it. -/
theorem captureAt_endCapture_of_waiting (s : State) (p : Port) (st : Status) (data : List Byte)
    (h : (s.port p).txn = some .waiting) : (s.endCapture p st data).captureAt p = (none, some (.ready st data)) := by
  have hresult : (s.port p).captureResult st data = { s.port p with txn := some (.ready st data) } := if_pos h
  refine Prod.ext (PerPort.get_set_same _ p _) ?_
  exact (congrArg PortCtl.txn (port_setPort_same _ p _)).trans (congrArg PortCtl.txn hresult)

theorem captureAt_endCapture_other (s : State) (p q : Port) (st : Status) (data : List Byte) (h : p ≠ q) :
    (s.endCapture q st data).captureAt p = s.captureAt p :=
  Prod.ext (PerPort.get_set_other _ q p _ h) (congrArg PortCtl.txn (port_setPort_other _ q p _ h))

/-! ## Grants beside it (R136, R139) -/

/-- A grant to one port's read, whether it begins the transfer or ends NO_PIN, leaves the other port's read alone; a
port without a read has nothing to grant. -/
theorem captureAt_grantCapture (s : State) (p q : Port) (h : s.mpt.capture.get p = none) :
    (s.grantCapture q).captureAt p = s.captureAt p := by
  unfold State.grantCapture
  split
  case h_1 => rfl
  case h_2 r hr =>
    have hne : p ≠ q := by
      rintro rfl
      exact Option.some_ne_none r (hr.symm.trans h)
    dsimp only
    split
    · rfl
    · exact captureAt_endCapture_other _ p q _ _ hne

theorem captureAt_grantOnce (s : State) (p : Port) (h : s.mpt.capture.get p = none) :
    s.grantOnce.captureAt p = s.captureAt p := by
  unfold State.grantOnce
  split
  · rfl
  · split
    · rfl
    · split
      · rfl
      · split
        · rfl
        · split
          · exact captureAt_grantCapture s p _ h
          · rfl

theorem captureAt_arbitrate (s : State) (p : Port) (h : s.mpt.capture.get p = none) :
    s.arbitrate.captureAt p = s.captureAt p := by
  refine arbitrate_of_grants (P := fun u => u.captureAt p = s.captureAt p) (fun u hu => ?_) rfl
  have hnone : u.mpt.capture.get p = none := (congrArg Prod.fst hu :).trans h
  exact (captureAt_grantOnce u p hnone).trans hu

/-! ## Retention beside it (R69) -/

theorem txn_appendRecord (s : State) (k : Fin 5) (superseded : Bool) (scan : Option NewScanPart) (p : Port) :
    ((s.appendRecord k superseded scan).port p).txn = (s.port p).txn := by
  have hraise : ∀ (u : State) (q : Port), ((u.raiseRecordsWaiting q).port p).txn = (u.port p).txn := fun u q => by
    rw [State.raiseRecordsWaiting, port_raise]
    rfl
  rw [State.appendRecord, State.eachFree, foldl_keeps (fun u => (u.port p).txn) State.raiseRecordsWaiting hraise]
  rfl

theorem captureAt_recordIfUnrecorded (s : State) (k : Fin 5) (p : Port) :
    (s.recordIfUnrecorded k).captureAt p = s.captureAt p := by
  rw [State.captureAt, mpt_recordIfUnrecorded, State.recordIfUnrecorded]
  split
  · rfl
  · rw [txn_appendRecord]
    rfl

theorem peu_freeSlot (s : State) (k : Fin 5) : (s.freeSlot k).peu = s.peu := by
  have hreeval : ∀ u : State, u.reevalRepeat.peu = u.peu := fun u => by
    unfold State.reevalRepeat State.reevalRepeatDuring
    split
    · split <;> rfl
    · rfl
  unfold State.freeSlot
  rw [hreeval]
  dsimp only
  split <;> rfl

theorem captureAt_freeSlot (s : State) (k : Fin 5) (p : Port) : (s.freeSlot k).captureAt p = s.captureAt p := by
  rw [State.captureAt, mpt_freeSlot, State.port, peu_freeSlot]
  rfl

theorem captureAt_checkRest (s : State) (p : Port) : s.checkRest.captureAt p = s.captureAt p := by
  unfold State.checkRest State.enterSelfRefresh State.retain
  split
  · rw [foldl_keeps (fun u => u.captureAt p) State.freeSlot fun u k => captureAt_freeSlot u k p, State.eachFree,
      foldl_keeps (fun u => u.captureAt p) State.recordIfUnrecorded fun u k => captureAt_recordIfUnrecorded u k p]
    rfl
  · rfl

theorem captureAt_dropDeadHeads (s : State) (p : Port) : s.dropDeadHeads.captureAt p = s.captureAt p := by
  unfold State.dropDeadHeads
  split <;> rfl

/-- What follows an event at the memory port leaves the transaction of a port whose read has left the queue. -/
theorem captureAt_settleMemory (s : State) (p : Port) (h : s.mpt.capture.get p = none) :
    s.settleMemory.captureAt p = s.captureAt p := by
  have hbefore : s.dropDeadHeads.checkRest.captureAt p = s.captureAt p :=
    (captureAt_checkRest _ p).trans (captureAt_dropDeadHeads s p)
  have hnone : s.dropDeadHeads.checkRest.mpt.capture.get p = none := (congrArg Prod.fst hbefore :).trans h
  rw [State.settleMemory, captureAt_checkRest, captureAt_arbitrate _ p hnone, hbefore]

/-- A result given at an event stands at the event's end, in whatever way the memory port goes on. -/
theorem captureAt_settleMemory_endCapture (s : State) (p : Port) (st : Status) (data : List Byte)
    (h : (s.port p).txn = some .waiting) :
    (s.endCapture p st data).settleMemory.captureAt p = (none, some (.ready st data)) := by
  have hend := captureAt_endCapture_of_waiting s p st data h
  rw [captureAt_settleMemory _ p (congrArg Prod.fst hend :), hend]

/-! ## Its completion (R139, R150, R160) -/

theorem exec_captureReadCompletion (e : Env) (p : Port) (r : CaptureRead) (addr : Nat) (wanted : Bool) (s : State)
    (h : s.mpt.transfer = some (.captureRead p r addr wanted)) :
    exec (.captureReadCompletion e) s = .next ((s.arrive e).finishCaptureRead p r addr wanted).settleMemory := by
  show Host.Outcome.next (s.arrive e).captureReadDone = _
  rw [State.captureReadDone, arrive_mpt, h]

/-- A read still wanted at its completion ends OK, with its pixels' bytes. -/
theorem finishCaptureRead_of_wanted (s : State) (p : Port) (r : CaptureRead) (addr : Nat) :
    s.finishCaptureRead p r addr true = State.endCapture { s with mpt.transfer := none } p .ok
      ((readPixels s.mpt.frameMemory addr r.first r.count).flatMap captureBytes) := rfl

/-- Settles O18: the read ends OK with its bytes, and what follows at the memory port leaves that result. -/
theorem captureReadAnswersOk : Obligations.CaptureReadAnswersOk := by
  intro e p r addr s ht hwait
  have hexec := exec_captureReadCompletion e p r addr true s ht
  have houter : ((s.arrive e).finishCaptureRead p r addr true).settleMemory.outer = s.outer := by
    rw [outer_settleMemory, outer_finishCaptureRead, arrive_outer]
  have hcapture := captureAt_settleMemory_endCapture { s.arrive e with mpt.transfer := none } p .ok
    ((readPixels (s.arrive e).mpt.frameMemory addr r.first r.count).flatMap captureBytes)
    ((congrArg PortCtl.txn (arrive_port s e p)).trans hwait)
  rw [← finishCaptureRead_of_wanted, arrive_mpt] at hcapture
  exact ⟨_, hexec, (congrArg Prod.fst hcapture :), (congrArg Prod.snd hcapture :), (congrArg Outer.frameMemory houter :)⟩

/-! ## Its wait deadline (R140) -/

theorem waitReached_of_due (s : State) (p : Port) (r : CaptureRead) (hr : s.mpt.capture.get p = some r)
    (hg : s.captureGranted p = false) (hd : r.wait.due s.relayTime = true) :
    s.waitReached p = (s.endCapture p .captureLate []).settleMemory := by
  have hqueued : s.captureQueued p = true := by rw [State.captureQueued, hr, hg]; rfl
  have hdue : deadlineDue ((s.mpt.capture.get p).map (·.wait)) s.relayTime = true := by rw [hr]; exact hd
  exact if_pos (by rw [hqueued, hdue]; rfl)

theorem captureGranted_arrive (s : State) (e : Env) (p : Port) : (s.arrive e).captureGranted p = s.captureGranted p := by
  rw [State.captureGranted, arrive_mpt]
  rfl

/-- Settles O20: the read ends CAPTURE_LATE, and what follows at the memory port leaves that result. -/
theorem waitDeadlineEndsTheRead : Obligations.WaitDeadlineEndsTheRead := by
  intro e p r s hr hg hd hwait
  have hreach := waitReached_of_due (s.arrive e) p r (by rw [arrive_mpt]; exact hr)
    ((captureGranted_arrive s e p).trans hg) hd
  have hcapture := captureAt_settleMemory_endCapture (s.arrive e) p .captureLate []
    ((congrArg PortCtl.txn (arrive_port s e p)).trans hwait)
  exact ⟨_, congrArg Host.Outcome.next hreach, (congrArg Prod.fst hcapture :), (congrArg Prod.snd hcapture :)⟩

/-! ## Refreshes owed (R135) -/

/-- While the panel does not hold, what follows an event at the memory port leaves the refreshes owed: a refresh is
taken away at its completion, not at its grant. -/
theorem owed_settleMemory (s : State) (h : s.sco.state ≠ .holding) : s.settleMemory.mpt.owed = s.mpt.owed :=
  congrArg (fun m : PowerState × Option Deadline × Nat × Bool × Memory => m.2.2.1) (standing_settleMemory s h)

theorem refreshFallsDue_of_running (s : State) (h : s.mpt.timerRunning = true) :
    s.refreshFallsDue = State.settleMemory { s with mpt.owed := satInc 8 s.mpt.owed } := if_pos h

theorem refreshFallsDue_of_stopped (s : State) (h : s.mpt.timerRunning = false) : s.refreshFallsDue = s :=
  if_neg (by rw [h]; exact Bool.false_ne_true)

theorem refreshDone_of_refresh (s : State) (h : s.mpt.transfer = some .refresh) :
    s.refreshDone = s.finishRefresh.settleMemory := by
  rw [State.refreshDone, h]

/-- Settles O19: the timer and the completion change the count, and no grant that follows does. -/
theorem refreshOwedRisesAndFalls : Obligations.RefreshOwedRisesAndFalls := by
  intro e s hhold
  have hmpt := arrive_mpt s e
  have hscan : (s.arrive e).sco.state ≠ .holding := by rw [arrive_sco]; exact hhold
  refine ⟨fun hrun => ?_, fun hstop => ?_, fun hrefresh => ?_⟩
  · have hdue := refreshFallsDue_of_running (s.arrive e) (by rw [hmpt]; exact hrun)
    have howed := owed_settleMemory { s.arrive e with mpt.owed := satInc 8 (s.arrive e).mpt.owed } hscan
    exact ⟨_, congrArg Host.Outcome.next hdue, howed.trans (congrArg (fun m : MemPort => satInc 8 m.owed) hmpt)⟩
  · exact congrArg Host.Outcome.next (refreshFallsDue_of_stopped (s.arrive e) (by rw [hmpt]; exact hstop))
  · have hdone := refreshDone_of_refresh (s.arrive e) (by rw [hmpt]; exact hrefresh)
    have howed := owed_settleMemory (s.arrive e).finishRefresh hscan
    exact ⟨_, congrArg Host.Outcome.next hdone, howed.trans (congrArg (fun m : MemPort => m.owed - 1) hmpt)⟩

end Sys2Proof.Machine
end

section
/-! Pins: the answers of PIN and RELEASE, and a masked write to the expiry setting (R144, R145, R147, R159). -/
namespace Sys2Proof.Machine

/-! ## The answers (R145, R147) -/

/-- A request of the right's holder, on a port with no transaction open, gets the block's answer. -/
theorem request_openPort (e : Env) (p : Port) (right : Right) (data : List Byte) (s : State)
    (act : State → State × Status) (htxn : (s.port p).txn = none) (hr : s.hasRight p right = true) :
    (s.openPort e p).request p right data act =
      (act (s.arrive e)).1.endTxn p (act (s.arrive e)).2 (zeros data.length) := by
  rw [openPort_of_no_txn _ _ _ htxn, request_granted _ _ _ _ _ ((arrive_hasRight s e p right).trans hr)]

theorem exec_pin (e : Env) (p : Port) (data : List Byte) (s : State) (htxn : (s.port p).txn = none)
    (hr : s.hasRight p .pin = true) : exec (.pin e ⟨p, data⟩) s =
      .next (((s.arrive e).requestPin p).1.endTxn p ((s.arrive e).requestPin p).2 (zeros data.length)) :=
  congrArg Host.Outcome.next (request_openPort e p .pin data s (fun t => t.requestPin p) htxn hr)

theorem exec_release (e : Env) (p : Port) (data : List Byte) (s : State) (htxn : (s.port p).txn = none)
    (hr : s.hasRight p .pin = true) : exec (.release e ⟨p, data⟩) s =
      .next (((s.arrive e).requestRelease p).1.endTxn p ((s.arrive e).requestRelease p).2 (zeros data.length)) :=
  congrArg Host.Outcome.next (request_openPort e p .pin data s (fun t => t.requestRelease p) htxn hr)

theorem requestPin_of_held (s : State) (p : Port) (h : s.store.pins.get p ≠ none) : s.requestPin p = (s, .pinHeld) :=
  if_pos (Option.isSome_iff_ne_none.mpr h)

theorem requestPin_of_full (s : State) (p : Port) (h : s.store.pins.get p = none) (hfull : s.pinLimit < s.pinsHeld + 1) :
    s.requestPin p = (s, .noRoom) := by
  rw [State.requestPin, h]
  exact if_pos hfull

theorem requestPin_of_not_ready (s : State) (p : Port) (h : s.store.pins.get p = none)
    (hroom : s.pinsHeld + 1 ≤ s.pinLimit) (hno : s.newestComplete = none) : s.requestPin p = (s, .notReady) := by
  rw [State.requestPin, h, hno]
  exact if_neg hroom.not_gt

theorem requestPin_of_ready (s : State) (p : Port) (k : Fin 5) (h : s.store.pins.get p = none)
    (hroom : s.pinsHeld + 1 ≤ s.pinLimit) (hk : s.newestComplete = some k) :
    s.requestPin p = (s.grantPin p k, .ok) := by
  rw [State.requestPin, h, hk]
  exact if_neg hroom.not_gt

theorem requestRelease_of_none (s : State) (p : Port) (h : s.store.pins.get p = none) :
    s.requestRelease p = (s, .pinNotHeld) := by
  rw [State.requestRelease, h]
  rfl

theorem requestRelease_of_some (s : State) (p : Port) (x : Pin) (h : s.store.pins.get p = some x) :
    s.requestRelease p = (s.dropPin p, .ok) := by
  rw [State.requestRelease, h]
  rfl

/-! ## The grant (R145) -/

theorem slot_setPinHolder_same (s : State) (k : Fin 5) (p : Port) (held : Bool) : (s.setPinHolder k p held).slot k =
    { s.slot k with pinHolders := (s.slot k).pinHolders.set p held } :=
  slot_modSlot_same s k _

theorem slot_setPinHolder_other (s : State) (k j : Fin 5) (p : Port) (held : Bool) (h : j ≠ k) :
    (s.setPinHolder k p held).slot j = s.slot j :=
  slot_modSlot_other s k j _ h

theorem slot_grantPin_same (s : State) (p : Port) (k : Fin 5) :
    (s.grantPin p k).slot k = { s.slot k with pinHolders := (s.slot k).pinHolders.set p true } :=
  slot_setPinHolder_same s k p true

theorem slot_grantPin_other (s : State) (p : Port) (k j : Fin 5) (h : j ≠ k) : (s.grantPin p k).slot j = s.slot j :=
  slot_setPinHolder_other s k j p true h

theorem pins_grantPin_same (s : State) (p : Port) (k : Fin 5) : (s.grantPin p k).store.pins.get p =
    some { slot := k, arrival := (s.slot k).arrival, remaining := s.pinStart p } :=
  PerPort.get_set_same _ p _

theorem pins_grantPin_other (s : State) (p q : Port) (k : Fin 5) (h : q ≠ p) :
    (s.grantPin p k).store.pins.get q = s.store.pins.get q :=
  PerPort.get_set_other _ p q _ h

/-- A pin starts with the expiry setting, and with 1 where that is 0. -/
theorem pinStart_eq (s : State) (p : Port) :
    s.pinStart p = if s.store.expiry.get p = 0 then 1 else (s.store.expiry.get p).toNat := by
  rw [State.pinStart]
  split
  next h => rw [h]; rfl
  next h => exact max_eq_right (Nat.pos_of_ne_zero fun hz => h (BitVec.eq_of_toNat_eq hz))

/-- Settles O45: three refusals that leave the state, then the grant on the newest COMPLETE slot. -/
theorem pinAnswers : Obligations.PinAnswers := by
  intro e p data s htxn hr
  have hexec := exec_pin e p data s htxn hr
  have hpins := arrive_pins s e
  refine ⟨fun hheld => ?_, fun hnone hfull => ?_, fun hnone hroom => ?_⟩
  · rw [hexec, requestPin_of_held _ _ (by rwa [hpins])]
  · rw [hexec, requestPin_of_full _ _ (by rwa [hpins]) (by rwa [arrive_pinLimit, arrive_pinsHeld])]
  · have hnone' : (s.arrive e).store.pins.get p = none := by rwa [hpins]
    have hroom' : (s.arrive e).pinsHeld + 1 ≤ (s.arrive e).pinLimit := by rwa [arrive_pinLimit, arrive_pinsHeld]
    refine ⟨fun hno => ?_, fun k hk => ?_⟩
    · rw [hexec, requestPin_of_not_ready _ _ hnone' hroom' hno]
    · rw [requestPin_of_ready _ _ k hnone' hroom' hk] at hexec
      have hslot := slot_grantPin_same (s.arrive e) p k
      refine ⟨_, hexec, prevStatus_endTxn _ _ _ _, ?_, ?_, ?_, fun q hq => ⟨?_, ?_⟩,
        slot_grantPin_other (s.arrive e) p k, arrive_pacing s e, arrive_sco s e, arrive_mpt s e, arrive_records s e⟩
      · exact (pins_grantPin_same (s.arrive e) p k).trans (by rw [arrive_slot_arrival, pinStart_eq, arrive_expiry])
      · exact (congrArg (fun r : Slot => r.pinHolders.get p) hslot).trans (PerPort.get_set_same _ p true)
      · exact (congrArg Slot.state hslot).trans (arrive_slot_state s e k)
      · exact (pins_grantPin_other (s.arrive e) p q k hq).trans (by rw [hpins])
      · exact (congrArg (fun r : Slot => r.pinHolders.get q) hslot).trans
          ((PerPort.get_set_other _ p q true hq).trans (by rw [arrive_slot_pinHolders]))

/-! ## The release (R147) -/

theorem slot_dropPin_other {s : State} {p : Port} {x : Pin} (h : s.store.pins.get p = some x) (j : Fin 5)
    (hj : j ≠ x.slot) : (s.dropPin p).slot j = s.slot j := by
  rw [dropPin_of_some h]
  exact slot_setPinHolder_other s x.slot j p false hj

/-- The end of a pin takes its port out of the holders of the pinned slot. -/
theorem pinHolders_dropPin {s : State} {p : Port} {x : Pin} (h : s.store.pins.get p = some x) :
    ((s.dropPin p).slot x.slot).pinHolders = (s.slot x.slot).pinHolders.set p false := by
  rw [dropPin_of_some h]
  exact congrArg Slot.pinHolders (slot_setPinHolder_same s x.slot p false)

/-- Outside the frame store the end of a pin changes nothing. -/
theorem dropPin_eq_store (s : State) (p : Port) : s.dropPin p = { s with store := (s.dropPin p).store } := by
  unfold State.dropPin
  split <;> rfl

/-- Settles O46: without a pin an answer alone; with one, the end of that pin. -/
theorem releaseEndsThePin : Obligations.ReleaseEndsThePin := by
  intro e p data s htxn hr
  have hexec := exec_release e p data s htxn hr
  refine ⟨fun hnone => ?_, fun x hx => ?_⟩
  · rw [hexec, requestRelease_of_none _ _ (by rwa [arrive_pins])]
  · have hx' : (s.arrive e).store.pins.get p = some x := by rwa [arrive_pins]
    rw [requestRelease_of_some _ _ _ hx'] at hexec
    obtain ⟨hstate, harrival, -⟩ := slot_dropPin (s.arrive e) p x.slot
    have hpins := pins_dropPin (s.arrive e) p
    have hhold := pinHolders_dropPin hx'
    have hother := slot_dropPin_other hx'
    have hport : ∀ q, ((s.arrive e).dropPin p).port q = s.port q := fun q => by
      rw [dropPin_eq_store]; exact arrive_port s e q
    have hpacing : ((s.arrive e).dropPin p).pacing = s.pacing := by rw [dropPin_eq_store]; exact arrive_pacing s e
    have hmpt : ((s.arrive e).dropPin p).mpt = s.mpt := by rw [dropPin_eq_store]; exact arrive_mpt s e
    have hrecords : ((s.arrive e).dropPin p).records = s.records := by rw [dropPin_eq_store]; exact arrive_records s e
    rw [arrive_slot_pinHolders] at hhold
    refine ⟨_, hexec, prevStatus_endTxn _ _ _ _, (hpins p).trans (if_pos rfl), ?_, fun q hq => ?_,
      hstate.trans (arrive_slot_state s e _), harrival.trans (arrive_slot_arrival s e _), fun q hq => ⟨?_, ?_⟩, ?_,
      hother, hpacing, hmpt, hrecords⟩
    · exact (congrArg (PerPort.get · p) hhold).trans (PerPort.get_set_same _ p false)
    · exact (congrArg (PerPort.get · q) hhold).trans (PerPort.get_set_other _ p q false hq)
    · exact ((hpins q).trans (if_neg hq)).trans (by rw [arrive_pins])
    · exact (port_endTxn_other _ p q _ _ hq).trans (hport q)
    · rw [port_endTxn_same]
      exact (congrArg PortCtl.causes (hport p) :)

/-! ## The expiry setting (R144, R159) -/

/-- The mask chooses, bit by bit, between the value and the old byte. -/
theorem getLsbD_mergeByte (old mask value : Byte) (i : Nat) :
    (mergeByte old mask value).getLsbD i = if mask.getLsbD i then value.getLsbD i else old.getLsbD i := by
  by_cases hi : i < 8
  · rw [mergeByte, BitVec.getLsbD_or, BitVec.getLsbD_and, BitVec.getLsbD_and, BitVec.getLsbD_not, decide_eq_true hi]
    cases mask.getLsbD i <;> simp
  · rw [BitVec.getLsbD_of_ge _ _ (Nat.le_of_not_lt hi), BitVec.getLsbD_of_ge _ _ (Nat.le_of_not_lt hi),
      BitVec.getLsbD_of_ge _ _ (Nat.le_of_not_lt hi), BitVec.getLsbD_of_ge _ _ (Nat.le_of_not_lt hi), if_neg nofun]

/-- A permitted write to a region that is not the mode word. -/
theorem takeWrite_of_mayWrite (s : State) (p : Port) (masked : Bool) (addr : BitVec 24) (data : List Byte) (r : Region)
    (off : Nat) (ha : regionOf addr.toNat = some (r, off))
    (hmay : s.mayWrite p r off (writePairs masked data).length = true) (hm : r ≠ .modeWord) :
    s.takeWrite p masked addr data = (s.writeRegion p r off (writePairs masked data)).endTxn p
      (accessStatus r off (writePairs masked data).length) (zeros data.length) := by
  rw [State.takeWrite]
  simp only [ha, hmay, hm, Bool.true_eq_false, if_false]

/-- A masked write of one pair to the expiry setting, by a port with the pin right. -/
theorem takeWrite_expiry (s : State) (p : Port) (mask value : Byte) (h : s.hasRight p .pin = true) :
    s.takeWrite p true 0x030000 [mask, value] =
      State.endTxn { s with store.expiry := s.store.expiry.set p (mergeByte (s.store.expiry.get p) mask value) } p .ok
        (zeros 2) := by
  have hmay : s.mayWrite p .pinRegion 0 1 = true := by
    simp only [State.mayWrite, Region.writeRight, h]
    rfl
  exact takeWrite_of_mayWrite s p true _ _ .pinRegion 0 (by decide) hmay nofun

/-- Settles O34: the merged byte is the port's new setting, and the rest of the store stays. -/
theorem maskedWriteMergesBits : Obligations.MaskedWriteMergesBits := by
  intro e p mask value s htxn hr
  have hexec : exec (.maskedWrite e p 0x030000 [mask, value]) s =
      .next ((s.openPort e p).takeWrite p true 0x030000 [mask, value]) := rfl
  rw [openPort_of_no_txn _ _ _ htxn, takeWrite_expiry _ _ _ _ ((arrive_hasRight s e p .pin).trans hr),
    arrive_expiry] at hexec
  have hexpiry := PerPort.get_set_same s.store.expiry p (mergeByte (s.store.expiry.get p) mask value)
  refine ⟨_, hexec, prevStatus_endTxn _ _ _ _, fun i => ?_, fun q hq => PerPort.get_set_other _ p q _ hq,
    arrive_pins s e, rfl, arrive_ovl s e, arrive_mpt s e⟩
  exact (congrArg (·.getLsbD i) hexpiry).trans (getLsbD_mergeByte _ _ _ i)

end Sys2Proof.Machine
end

section
/-! Denied accesses: which transactions are denied, and what a denial does (R149, R163, R164, R171). -/
namespace Sys2Proof.Machine

/-! ## What a denial does (R164) -/

section
variable (s : State) (p : Port) (command : Byte) (addr : BitVec 24) (n : Nat)

theorem port_deny_same : (s.deny p command addr n).port p =
    (((s.port p).trapDenial command addr s.relayTime).enter .accessDenied (causeDetail 0 (portCode p))).finish .denied
      ([(s.port p).prevStatus.code, 0, 0, 0] ++ zeros n) := by
  simp only [State.deny, port_endTxn_same, port_raise, port_setPort_same]
  rfl

theorem port_deny_other (q : Port) (h : q ≠ p) :
    (s.deny p command addr n).port q = (s.port q).enter .accessDenied (causeDetail 0 (portCode p)) := by
  simp only [State.deny, port_endTxn_other _ _ _ _ _ h, port_raise, port_setPort_other _ _ _ _ h]

/-- Both sets take the raising, and nothing else of them changes. -/
theorem flags_deny (q : Port) : ((s.deny p command addr n).port q).flags =
    ((s.port q).enter .accessDenied (causeDetail 0 (portCode p))).flags := by
  by_cases h : q = p
  · subst h
    rw [port_deny_same]
    rfl
  · rw [port_deny_other _ _ _ _ _ _ h]

theorem deniedAccess_deny : DeniedAccess s (s.deny p command addr n) p command addr n where
  status := by rw [port_deny_same]; exact ⟨rfl, rfl⟩
  bytesOut := by rw [port_deny_same]; rfl
  trap := by
    rw [port_deny_same]
    show ((s.port p).trapDenial command addr s.relayTime).trap = _
    cases h : (s.port p).trap <;> simp only [PortCtl.trapDenial, h]
  cause q := by rw [flags_deny, flags_enter_same]; rfl
  otherCauses q c hc := by rw [flags_deny, flags_enter_other _ _ _ _ hc]
  ports q := by
    by_cases h : q = p
    · subst h
      rw [port_deny_same]
      exact ⟨rfl, rfl, fun hne => absurd rfl hne⟩
    · rw [port_deny_other _ _ _ _ _ _ h]
      exact ⟨rfl, rfl, fun _ => ⟨rfl, rfl, rfl, rfl⟩⟩
  peu := rfl
  rest := rfl

end

/-! ## Reads that are denied -/

theorem takeRead_region (s : State) (p : Port) (addr : BitVec 24) (n : Nat) (r : Region) (off : Nat)
    (ha : regionOf addr.toNat = some (r, off)) (hr : r ≠ .captureWindow) :
    s.takeRead p addr n = s.readRegion p addr r off n := by
  rw [State.takeRead, ha]
  cases r with
  | captureWindow => exact absurd rfl hr
  | _ => rfl

theorem readRegion_denied (s : State) (p : Port) (addr : BitVec 24) (r : Region) (off n : Nat)
    (h : s.mayRead p r = false) : s.readRegion p addr r off n = s.deny p cmdRead addr n :=
  if_neg (by rw [h]; exact Bool.false_ne_true)

theorem takeCapture_denied (s : State) (p : Port) (off n : Nat) (h : s.hasRight p .pin = false) :
    s.takeCapture p off n = s.deny p cmdRead (BitVec.ofNat 24 (0x800000 + off)) n := if_pos h

/-! ## Writes that are denied -/

theorem length_maskedPairs : ∀ data : List Byte, (maskedPairs data).length = data.length / 2
  | [] => rfl
  | [_] => by simp [maskedPairs]
  | _ :: _ :: rest => by
    rw [maskedPairs, List.length_cons, length_maskedPairs rest, List.length_cons, List.length_cons]
    omega

/-- The bytes of a region that a write reaches: one for each data byte, or for each complete pair. -/
theorem length_writePairs (masked : Bool) (data : List Byte) :
    (writePairs masked data).length = if masked then data.length / 2 else data.length := by
  cases masked
  · exact length_plainPairs data
  · exact length_maskedPairs data

theorem takeWrite_denied (s : State) (p : Port) (masked : Bool) (addr : BitVec 24) (data : List Byte) (r : Region)
    (off : Nat) (ha : regionOf addr.toNat = some (r, off))
    (h : s.mayWrite p r off (writePairs masked data).length = false) :
    s.takeWrite p masked addr data = s.deny p (writeCommand masked) addr data.length := by
  rw [State.takeWrite]
  simp only [ha, h, if_true]

/-- A write on a port with no transaction open, to bytes that the port may not write. -/
theorem deniedAccess_takeWrite (e : Env) (p : Port) (masked : Bool) (addr : BitVec 24) (data : List Byte) (r : Region)
    (off : Nat) (s : State) (htxn : (s.port p).txn = none) (ha : regionOf addr.toNat = some (r, off))
    (h : s.mayWrite p r off (if masked then data.length / 2 else data.length) = false) :
    DeniedAccess (s.arrive e) ((s.openPort e p).takeWrite p masked addr data) p (writeCommand masked) addr
      data.length := by
  rw [openPort_of_no_txn _ _ _ htxn, takeWrite_denied _ p masked addr data r off ha
    (by rw [arrive_mayWrite, length_writePairs]; exact h)]
  exact deniedAccess_deny _ p _ addr _

theorem mayWrite_modeWord (s : State) (p : Port) (off n : Nat) : s.mayWrite p .modeWord off n = s.hasRight p .modeFields :=
  Bool.and_true _

/-- Only the two bytes of the enables may be written in the event view (R171). -/
theorem mayWrite_eventView_past (s : State) (p : Port) (off n : Nat) (hn : 0 < n) (h : 8 < off + n) :
    s.mayWrite p .eventView off n = false := by
  have hbytes : Region.writableBytes .eventView off n = false := by
    simp only [Region.writableBytes, decide_eq_false hn.ne', decide_eq_false h.not_ge, Bool.and_false, Bool.or_self]
  simp only [State.mayWrite, Region.writeRight, hbytes, Bool.and_false]

theorem regionOf_enables (second : Bool) : regionOf (if second then 0x000007 else 0x000006 : BitVec 24).toNat =
    some (.eventView, if second then 7 else 6) := by
  cases second <;> rfl

/-- Settles O32: each of the five kinds ends in the one denial. -/
theorem deniedAccessIsTrapped : Obligations.DeniedAccessIsTrapped := by
  refine ⟨fun e p addr n r off s htxn ha hr hmay => ⟨_, rfl, ?_⟩, fun e p off n s htxn hright => ⟨_, rfl, ?_⟩,
    fun e p addr data r off s htxn ha => ⟨fun hmay => ⟨_, rfl, ?_⟩, fun hmay => ⟨_, rfl, ?_⟩⟩,
    fun e p masked data s htxn hright => ⟨_, rfl, ?_⟩, fun e p masked second data s htxn hlong => ⟨_, rfl, ?_⟩⟩
  · rw [openPort_of_no_txn _ _ _ htxn, takeRead_region _ p addr n r off ha hr,
      readRegion_denied _ p addr r off n ((arrive_mayRead s e p r).trans hmay)]
    exact deniedAccess_deny _ p _ addr n
  · rw [openPort_of_no_txn _ _ _ htxn, takeCapture_denied _ p _ n ((arrive_hasRight s e p .pin).trans hright)]
    exact deniedAccess_deny _ p _ _ n
  · exact deniedAccess_takeWrite e p false addr data r off s htxn ha hmay
  · exact deniedAccess_takeWrite e p true addr data r off s htxn ha hmay
  · exact deniedAccess_takeWrite e p masked _ data .modeWord 0 s htxn rfl ((mayWrite_modeWord s p 0 _).trans hright)
  · refine deniedAccess_takeWrite e p masked _ data .eventView _ s htxn (regionOf_enables second)
      (mayWrite_eventView_past s p _ _ (Nat.zero_lt_of_lt hlong) ?_)
    cases second <;> simp only [if_true, Bool.false_eq_true, if_false] at hlong ⊢ <;> omega

end Sys2Proof.Machine
end

section
/-! A READ in the capture window: its answer without a pin, and its wait in the queue (R149, R160). -/
namespace Sys2Proof.Machine

theorem exec_captureWindowRead (e : Env) (p : Port) (off : BitVec 23) (n : Nat) (s : State)
    (htxn : (s.port p).txn = none) :
    exec (.captureWindowRead e p off n) s = .next ((s.arrive e).takeCapture p off.toNat n) := by
  show Host.Outcome.next ((s.openPort e p).takeCapture p off.toNat n) = _
  rw [openPort_of_no_txn _ _ _ htxn]

theorem takeCapture_of_no_pin (s : State) (p : Port) (off n : Nat) (hr : s.hasRight p .pin = true)
    (h : s.store.pins.get p = none) : s.takeCapture p off n = s.endTxn p .noPin (captureOut 0 n []) := by
  rw [State.takeCapture, hr, h]
  rfl

theorem takeCapture_of_inside (s : State) (p : Port) (off n : Nat) (x : Pin) (hr : s.hasRight p .pin = true)
    (h : s.store.pins.get p = some x) (hline : off / 3840 < (s.slot x.slot).height)
    (hpixel : off % 3840 < (s.slot x.slot).width) : s.takeCapture p off n =
      s.queueCapture p (x.captureRead (s.slot x.slot).width (off / 3840) (off % 3840) s.relayTime) := by
  rw [State.takeCapture, hr, h]
  exact if_pos (And.intro hline hpixel)

theorem captureOut_no_data (n : Nat) : captureOut 0 (n + 1) [] = startByte :: List.replicate n 0 := by
  simp [captureOut, zeros]

/-! ## Nothing is granted during a transfer (R134, R136) -/

theorem checkRest_of_busy (s : State) (h : s.mpt.transfer ≠ none) : s.checkRest = s := by
  have hrest : s.mayRest = false := by rw [State.mayRest, decide_eq_false h, Bool.and_false]
  exact if_neg (by rw [hrest]; exact Bool.false_ne_true)

theorem arbitrate_of_busy (s : State) (h : s.mpt.transfer ≠ none) : s.arbitrate = s := if_neg fun hc => h hc.2

/-- While a transfer is in progress only dead lines leave the staging queue at the end of an event. -/
theorem settleMemory_of_busy (s : State) (h : s.mpt.transfer ≠ none) : s.settleMemory = s.dropDeadHeads := by
  have hbusy : s.dropDeadHeads.mpt.transfer ≠ none := by rwa [mpt_dropDeadHeads]
  rw [State.settleMemory, checkRest_of_busy _ hbusy, arbitrate_of_busy _ hbusy, checkRest_of_busy _ hbusy]

theorem port_dropDeadHeads (s : State) (p : Port) : s.dropDeadHeads.port p = s.port p := by
  unfold State.dropDeadHeads
  split <;> rfl

theorem wakeMemory_of_active (s : State) (h : s.mpt.power = .active) : s.wakeMemory = s :=
  if_neg (by rw [h]; decide)

/-- Queued while a transfer is in progress and the memory is ACTIVE, a capture read stays in its queue and its
transaction waits. -/
theorem queueCapture_of_busy (s : State) (p : Port) (r : CaptureRead) (hactive : s.mpt.power = .active)
    (hbusy : s.mpt.transfer ≠ none) : (s.queueCapture p r).port p = { s.port p with txn := some .waiting } ∧
      (s.queueCapture p r).mpt.capture.get p = some r := by
  have hqueue : s.queueCapture p r = State.dropDeadHeads
      (State.setPort { s with mpt.capture := s.mpt.capture.set p (some r) } p
        { s.port p with txn := some .waiting }) := by
    have hawake : State.wakeMemory { s with mpt.capture := s.mpt.capture.set p (some r) } = _ :=
      wakeMemory_of_active _ hactive
    unfold State.queueCapture
    dsimp only
    rw [hawake]
    exact settleMemory_of_busy _ hbusy
  rw [hqueue, port_dropDeadHeads, mpt_dropDeadHeads]
  exact ⟨port_setPort_same _ p _, PerPort.get_set_same _ p _⟩

/-- Settles O39: without a pin the start byte and zeros; with one, the read in its queue. -/
theorem captureReadNeedsAPinAndWaits : Obligations.CaptureReadNeedsAPinAndWaits := by
  refine ⟨fun e p off n s htxn hr hnone => ?_, fun e p off n x s htxn hr hpin hline hpixel hbusy hactive => ?_⟩
  · rw [exec_captureWindowRead e p off _ s htxn, takeCapture_of_no_pin _ p _ _ ((arrive_hasRight s e p .pin).trans hr)
      (by rwa [arrive_pins]), captureOut_no_data, endTxn_eq, arrive_port]
    rfl
  · have hexec := exec_captureWindowRead e p off n s htxn
    rw [takeCapture_of_inside _ p _ n x ((arrive_hasRight s e p .pin).trans hr) (by rwa [arrive_pins])
      (by rwa [arrive_slot_height]) (by rwa [arrive_slot_width]), arrive_slot_width] at hexec
    obtain ⟨hport, hqueue⟩ := queueCapture_of_busy (s.arrive e) p
      (x.captureRead (s.slot x.slot).width (off.toNat / 3840) (off.toNat % 3840) (s.arrive e).relayTime)
      (by rwa [arrive_mpt]) (by rwa [arrive_mpt])
    rw [arrive_port] at hport
    exact ⟨_, hexec, (congrArg PortCtl.txn hport :), hqueue, (congrArg PortCtl.prevStatus hport :)⟩

end Sys2Proof.Machine
end

section
/-! NEXT_RECORD: one port's reader takes its oldest unread record (R154). -/
namespace Sys2Proof.Machine

/-! ## One port's reader -/

/-- With no record unread the view is NONE, and what was lost stays counted. -/
theorem Reader.next_of_none_unread {x : Reader} (ring : List FrameRecord) (h : x.unread = 0) : x.next ring =
    { unread := 0, lost := x.lost, view := { record := none, lost := x.lost, unread := 0 } } := by
  rw [Reader.next, if_pos h, h]

/-- The unread records are the last of the ring, so the oldest of `n + 1` stands `n + 1` places before its end. -/
theorem Reader.next_of_unread {x : Reader} (ring : List FrameRecord) {n : Nat} (h : x.unread = n + 1) : x.next ring =
    { unread := n, lost := 0, view := { record := ring[ring.length - (n + 1)]?, lost := x.lost, unread := n } } := by
  rw [Reader.next, h, if_neg n.succ_ne_zero, Nat.add_sub_cancel]

/-! ## The request -/

theorem reader_requestRecord_same (s : State) (p : Port) :
    (s.requestRecord p).1.records.readers.get p = (s.records.readers.get p).next s.records.ring :=
  PerPort.get_set_same _ p _

theorem reader_requestRecord_other (s : State) (p q : Port) (h : q ≠ p) :
    (s.requestRecord p).1.records.readers.get q = s.records.readers.get q :=
  PerPort.get_set_other _ p q _ h

theorem exec_nextRecord (e : Env) (p : Port) (data : List Byte) (s : State) (htxn : (s.port p).txn = none)
    (hr : s.hasRight p .records = true) : exec (.nextRecord e ⟨p, data⟩) s =
      .next (((s.arrive e).requestRecord p).1.endTxn p .ok (zeros data.length)) :=
  congrArg Host.Outcome.next (request_openPort e p .records data s (fun t => t.requestRecord p) htxn hr)

/-- Settles O51: the request answers OK, and only the port's own reader moves, to its next record if it has one. -/
theorem nextRecordReadsTheOldest : Obligations.NextRecordReadsTheOldest := by
  intro e p data s htxn hr
  have hreader : ((s.arrive e).requestRecord p).1.records.readers.get p =
      (s.records.readers.get p).next s.records.ring := by
    rw [reader_requestRecord_same, arrive_records]
  refine ⟨_, exec_nextRecord e p data s htxn hr, ?status, ?ring, ?stats, fun q hq => ?other, fun hnone => ?empty,
    fun n hunread => ?oldest⟩
  case status => exact prevStatus_endTxn _ p .ok _
  case ring | stats => rw [endTxn_records, State.requestRecord, arrive_records]
  case other => rw [endTxn_records, reader_requestRecord_other _ _ _ hq, arrive_records]
  case empty => rw [endTxn_records, hreader, Reader.next_of_none_unread _ hnone]
  case oldest => rw [endTxn_records, hreader, Reader.next_of_unread _ hunread]

end Sys2Proof.Machine
end

section
/-! The relay mode word field by field (R163, R176): what a masked write makes of each field, and of the whole word. -/
namespace Sys2Proof.Machine

/-! ## The fields of the word -/

/-- A field after a masked write holds its bits of the merged word or of the old one. -/
theorem fieldAfter_eq (owned old mask merged f : Byte) : fieldAfter owned old mask merged f =
    (if mask &&& f ≠ 0 ∧ fieldTakes owned f merged then merged else old) &&& f := by
  unfold fieldAfter
  split <;> rfl

/-- The fields share no bit: of a word put together field by field, each field holds its own part. -/
theorem foldl_modeFields_and (g : Byte → Byte) (f : Byte) (hf : f ∈ modeFields) :
    modeFields.foldl (fun acc k => acc ||| g k &&& k) 0 &&& f = g f &&& f := by
  have hsplit : ∀ a b c : Byte, (a ||| b) &&& c = a &&& c ||| b &&& c := fun a b c => by
    ext i
    simp [Bool.and_or_distrib_right]
  simp only [modeFields, List.mem_cons, List.not_mem_nil, or_false] at hf
  rcases hf with rfl | rfl | rfl | rfl | rfl | rfl <;> simp [modeFields, hsplit, BitVec.and_assoc]

/-- No field reaches bit 7. -/
theorem foldl_modeFields_bit7 (g : Byte → Byte) :
    (modeFields.foldl (fun acc k => acc ||| g k &&& k) 0).getLsbD 7 = false := by
  simp [modeFields]

theorem modeWordAfter_eq (owned old mask value : Byte) : modeWordAfter owned old mask value =
    modeFields.foldl (fun acc f => acc ||| (if mask &&& f ≠ 0 ∧ fieldTakes owned f (mergeByte old mask value)
      then mergeByte old mask value else old) &&& f) 0 := by
  simp only [modeWordAfter, fieldAfter_eq]

/-- Each field of the word after a masked write. -/
theorem modeWordAfter_and (owned old mask value f : Byte) (hf : f ∈ modeFields) :
    modeWordAfter owned old mask value &&& f =
      (if mask &&& f ≠ 0 ∧ fieldTakes owned f (mergeByte old mask value) then mergeByte old mask value else old) &&& f := by
  rw [modeWordAfter_eq]
  exact foldl_modeFields_and (fun f => if mask &&& f ≠ 0 ∧ fieldTakes owned f (mergeByte old mask value)
    then mergeByte old mask value else old) f hf

theorem modeWordAfter_bit7 (owned old mask value : Byte) : (modeWordAfter owned old mask value).getLsbD 7 = false := by
  rw [modeWordAfter_eq]
  exact foldl_modeFields_bit7 _

theorem fieldTakes_iff (owned f merged : Byte) :
    fieldTakes owned f merged = true ↔ owned &&& f ≠ 0 ∧ ¬(f = 0x03 ∧ merged &&& 0x03 = 0x03) := by
  simp only [fieldTakes, reservedField, Bool.and_eq_true, Bool.not_eq_true', decide_eq_true_eq, ← Bool.decide_and,
    decide_eq_false_iff_not]

theorem fieldTakes_eq_false_iff (owned f merged : Byte) :
    fieldTakes owned f merged = false ↔ owned &&& f = 0 ∨ (f = 0x03 ∧ merged &&& 0x03 = 0x03) := by
  rw [← Bool.not_eq_true, fieldTakes_iff, not_and_or, not_not, not_not]

theorem not_selected_iff (mask : Byte) : (∀ f ∈ modeFields, mask &&& f = 0) ↔ mask &&& 0x7F = 0 := by
  simp only [modeFields, List.forall_mem_cons]
  revert mask
  decide

/-- The write is PARTIAL when it selects no field, or one that stays. -/
theorem modeWritePartial_iff (owned old mask value : Byte) : modeWritePartial owned old mask value = true ↔
    mask &&& 0x7F = 0 ∨ ∃ f ∈ modeFields, mask &&& f ≠ 0 ∧
      (owned &&& f = 0 ∨ (f = 0x03 ∧ mergeByte old mask value &&& 0x03 = 0x03)) := by
  simp only [modeWritePartial, Bool.or_eq_true, List.all_eq_true, List.any_eq_true, decide_eq_true_eq, not_selected_iff,
    Bool.and_eq_true, Bool.not_eq_true', fieldTakes_eq_false_iff]

/-! ## A legal word -/

theorem lowlagPolicy_eq_reserved_iff (w : Byte) : lowlagPolicy w = .reserved ↔ w &&& 0x03 = 0x03 := by
  revert w
  decide

/-- A masked write leaves LOWLAG_POLICY as it was, or puts an encoding in it that is not reserved. -/
theorem lowlagPolicy_modeWordAfter (owned old mask value : Byte) (h : lowlagPolicy old ≠ .reserved) :
    lowlagPolicy (modeWordAfter owned old mask value) ≠ .reserved := by
  rw [Ne, lowlagPolicy_eq_reserved_iff] at h ⊢
  rw [modeWordAfter_and _ _ _ _ 0x03 (by decide)]
  split
  case isTrue htakes =>
    obtain ⟨-, hvalid⟩ := (fieldTakes_iff _ _ _).1 htakes.2
    exact fun hm => hvalid ⟨rfl, hm⟩
  case isFalse => exact h

/-- Whether the mode word is legal depends on that word alone. -/
theorem modeLegal_of_modeWord {s t : State} (h : t.peu.modeWord = s.peu.modeWord) (hs : s.ModeLegal) : t.ModeLegal where
  bit7 := h ▸ hs.bit7
  policy := by rw [State.lowlag, h]; exact hs.policy

/-! ## A write outside DEGRADED (R163) -/

/-- Outside DEGRADED a new mode word has no further effect. -/
theorem setModeWord_of_not_degraded (s : State) (w : Byte) (h : s.lra.aligner ≠ .degraded) :
    s.setModeWord w = { s with peu.modeWord := w } :=
  if_neg (by rw [decide_eq_false h, Bool.and_false]; exact Bool.false_ne_true)

/-- A port that may write the mode word owns a field of it. -/
theorem ownedMask_ne_zero (profile : Fin 4) (p : Port) (h : Machine.hasRight profile p .modeFields = true) :
    ownedMask profile p ≠ 0 := by
  revert h
  fin_cases profile <;> cases p <;> decide

/-- Settles O35: each field of the word is the one `fieldAfter` gives, and outside DEGRADED nothing follows. -/
theorem modeWordWriteByField : Obligations.ModeWordWriteByField := by
  intro e p mask value s htxn hright hal
  have hexec : exec (.relayModeWordWrite e p true [mask, value]) s =
      .next ((s.openPort e p).takeWrite p true 0x001000 [mask, value]) := rfl
  have hown := ownedMask_ne_zero _ p hright
  rw [openPort_of_no_txn _ _ _ htxn, takeWrite_modeWord _ _ _ _ (by rwa [arrive_peu]),
    setModeWord_of_not_degraded _ _ (by rwa [arrive_lra]), arrive_peu] at hexec
  refine ⟨_, hexec, fun f hf => ?fields, modeWordAfter_bit7 _ _ _ _, ?partly, ?status, rfl⟩
  case fields =>
    refine (modeWordAfter_and _ _ _ _ f hf).trans ?_
    simp only [fieldTakes_iff]
  case partly =>
    rw [prevStatus_endTxn]
    refine Iff.trans ?_ (modeWritePartial_iff _ _ _ _)
    split
    case isTrue h => exact iff_of_true rfl h
    case isFalse h => exact iff_of_false nofun h
  case status =>
    rw [prevStatus_endTxn]
    split
    · exact .inr rfl
    · exact .inl rfl

end Sys2Proof.Machine
end

section
/-! What each command leaves of the access profile and the relay mode word: an event of the relay both, a port transaction
both but for a write to the mode word (R162, R163, R176). -/
namespace Sys2Proof.Machine

/-! ## The events of the relay -/

section
variable (s : State)

theorem outer_scanReadDone : s.scanReadDone.outer = s.outer := by
  unfold State.scanReadDone
  split
  · rw [outer_settleMemory, outer_finishScanRead]
  · rfl

theorem outer_captureReadDone : s.captureReadDone.outer = s.outer := by
  unfold State.captureReadDone
  split
  · rw [outer_settleMemory, outer_finishCaptureRead]
  · rfl

theorem outer_refreshDone : s.refreshDone.outer = s.outer := by
  unfold State.refreshDone
  split
  · rw [outer_settleMemory, outer_finishRefresh]
  · rfl

theorem outer_refreshFallsDue : s.refreshFallsDue.outer = s.outer := by
  unfold State.refreshFallsDue
  split
  · exact outer_settleMemory _
  · rfl

theorem outer_waitReached (p : Port) : (s.waitReached p).outer = s.outer := by
  unfold State.waitReached
  split
  · rw [outer_settleMemory, outer_endCapture]
  · rfl

theorem outer_exitReached : s.exitReached.outer = s.outer := by
  unfold State.exitReached
  split
  · rw [outer_settleMemory, outer_memoryAwake]
  · rfl

theorem outer_leadTaken (k : Fin 5) : (s.leadTaken k).outer = s.outer := by
  unfold State.leadTaken
  split
  · rw [outer_settle, outer_modSlot]
  · rfl

theorem outer_tminTaken : s.tminTaken.outer = s.outer := by
  unfold State.tminTaken
  split
  · exact (outer_settle _ _).trans (outer_openWaiting _)
  · rfl

theorem outer_repeatTaken : s.repeatTaken.outer = s.outer := by
  unfold State.repeatTaken
  split
  · rw [outer_settle, outer_holdOrOpen]
  · rfl

theorem outer_plannedTaken : s.plannedTaken.outer = s.outer := by
  unfold State.plannedTaken
  split
  · exact (outer_settle _ _).trans (outer_takePlanned _)
  · rfl

theorem outer_graceTaken : s.graceTaken.outer = s.outer := by
  unfold State.graceTaken
  split
  · exact outer_settle _ _
  · rfl

theorem outer_lineTaken : s.lineTaken.outer = s.outer := by
  unfold State.lineTaken
  split
  · split
    · rw [outer_settle, outer_drawNext]
    · rfl
  · rfl

theorem outer_closeTaken : s.closeTaken.outer = s.outer := by
  unfold State.closeTaken
  split
  · split
    · rw [outer_settle, outer_closeScan]
    · rfl
  · rfl

theorem outer_panelRises : s.panelRises.outer = s.outer := by
  unfold State.panelRises
  dsimp only
  split
  · exact (outer_settle _ _).trans (outer_completeWake _ _)
  · rfl

theorem outer_wakeTaken : s.wakeTaken.outer = s.outer := by
  unfold State.wakeTaken
  split
  · rw [outer_settle, outer_wakeLate]
  · rfl

end

/-! ## The profile and the mode word -/

/-- The access profile and the relay mode word. -/
def State.control (s : State) : Fin 4 × Byte := (s.peu.profile, s.peu.modeWord)

theorem control_of_outer {s t : State} (h : t.outer = s.outer) : t.control = s.control :=
  Prod.ext (congrArg Outer.profile h) (modeWord_of_outer h)

theorem control_finishStagingWrite (s : State) (l : StagedLine) (addr : Nat) (queued : Bool) :
    (s.finishStagingWrite l addr queued).control = s.control :=
  (control_of_outer (outer_lineWritten _ l)).trans rfl

theorem control_stagingWriteDone (s : State) : s.stagingWriteDone.control = s.control := by
  unfold State.stagingWriteDone
  split
  · exact (control_of_outer (outer_settle _ s)).trans (control_finishStagingWrite s _ _ _)
  · rfl

/-! ### Port transactions -/

section
variable (s : State) (p : Port)

theorem control_arrive (e : Env) : (s.arrive e).control = s.control := control_of_outer (arrive_outer s e)
theorem control_endTxn (st : Status) (data : List Byte) : (s.endTxn p st data).control = s.control := rfl
theorem control_endBad (st : Status) (count : Nat) : (s.endBad p st count).control = s.control := rfl
theorem control_deny (command : Byte) (addr : BitVec 24) (n : Nat) : (s.deny p command addr n).control = s.control := rfl

theorem control_releaseSelect (fillers count : Nat) : (s.releaseSelect p fillers count).control = s.control := by
  unfold State.releaseSelect
  split
  · rfl
  · exact (control_of_outer (outer_settleMemory _)).trans rfl
  · rfl

theorem control_openPort (e : Env) : (s.openPort e p).control = s.control :=
  (control_releaseSelect _ p 0 0).trans (control_arrive s e)

theorem control_queueCapture (r : CaptureRead) : (s.queueCapture p r).control = s.control := by
  have hwake := control_of_outer (outer_wakeMemory { s with mpt.capture := s.mpt.capture.set p (some r) })
  unfold State.queueCapture
  exact (control_of_outer (outer_settleMemory _)).trans hwake

theorem control_takeCapture (off count : Nat) : (s.takeCapture p off count).control = s.control := by
  unfold State.takeCapture
  split
  · rfl
  · split
    · rfl
    · dsimp only
      split
      · exact control_queueCapture s p _
      · rfl

theorem control_readRegion (addr : BitVec 24) (r : Region) (off count : Nat) :
    (s.readRegion p addr r off count).control = s.control := by
  unfold State.readRegion State.freezeOnRead
  split
  · split <;> rfl
  · rfl

theorem control_takeRead (addr : BitVec 24) (count : Nat) : (s.takeRead p addr count).control = s.control := by
  unfold State.takeRead
  split
  · rfl
  · exact control_takeCapture s p _ count
  · exact control_readRegion s p addr _ _ count

theorem control_request (right : Right) (data : List Byte) {act : State → State × Status}
    (hact : ∀ u, (act u).1.control = u.control) : (s.request p right data act).control = s.control := by
  unfold State.request
  split
  · exact hact s
  · rfl

theorem control_causeRequest (data : List Byte) (f : PortCtl → Cause → PortCtl) :
    (s.causeRequest p data f).control = s.control := by
  unfold State.causeRequest
  split
  · rfl
  · split <;> rfl

/-- Only the mode word has its own write; a write to another region leaves it. -/
theorem control_writeRegion (r : Region) (off : Nat) (ps : List (Byte × Byte)) :
    (s.writeRegion p r off ps).control = s.control := by
  cases r <;> rfl

end

/-! ## What a command keeps -/

/-- From s to t the access profile stays, and a legal mode word is still legal. -/
structure ModeKept (s t : State) : Prop where
  profile : t.peu.profile = s.peu.profile
  legal : s.ModeLegal → t.ModeLegal

namespace ModeKept

theorem of_control {s t : State} (h : t.control = s.control) : ModeKept s t where
  profile := congrArg Prod.fst h
  legal := modeLegal_of_modeWord (congrArg Prod.snd h)

theorem trans {s t u : State} (h : ModeKept s t) (g : ModeKept t u) : ModeKept s u where
  profile := g.profile.trans h.profile
  legal hs := g.legal (h.legal hs)

end ModeKept

/-- A masked write puts a legal word in place of a legal one, with lock lost or not. -/
theorem modeKept_setModeWord (s : State) (owned mask value : Byte) :
    ModeKept s (s.setModeWord (modeWordAfter owned s.peu.modeWord mask value)) := by
  have hword : ModeKept s { s with peu.modeWord := modeWordAfter owned s.peu.modeWord mask value } :=
    ⟨rfl, fun hs => ⟨modeWordAfter_bit7 _ _ _ _, lowlagPolicy_modeWordAfter _ _ _ _ hs.policy⟩⟩
  unfold State.setModeWord
  dsimp only
  split
  · exact hword.trans (.of_control (control_of_outer ((outer_settle _ s).trans (outer_loseLock _))))
  · exact hword

theorem modeKept_takeWrite (s : State) (p : Port) (masked : Bool) (addr : BitVec 24) (data : List Byte) :
    ModeKept s (s.takeWrite p masked addr data) := by
  unfold State.takeWrite
  dsimp only
  split
  · exact .of_control rfl
  · split
    · exact .of_control rfl
    · split
      · exact (modeKept_setModeWord s _ _ _).trans (.of_control rfl)
      · exact .of_control (control_writeRegion s p _ _ _)

/-- A write begun at a port, whatever it reaches. -/
theorem modeKept_openPort_takeWrite (s : State) (e : Env) (p : Port) (masked : Bool) (addr : BitVec 24)
    (data : List Byte) : ModeKept s ((s.openPort e p).takeWrite p masked addr data) :=
  (ModeKept.of_control (control_openPort s p e)).trans (modeKept_takeWrite _ p masked addr data)

theorem modeKept_of_next {s u t : State} (hc : (.next u : Result) = .next t) (h : ModeKept s u) : ModeKept s t :=
  Host.Outcome.next.inj hc ▸ h

/-- An event that leaves the outer side, taken at its arrival. -/
theorem modeKept_of_event {s t u : State} {e : Env} (hc : (.next u : Result) = .next t)
    (h : u.control = (s.arrive e).control) : ModeKept s t :=
  modeKept_of_next hc (.of_control (h.trans (control_arrive s e)))

/-- A port transaction that leaves the mode word. -/
theorem modeKept_of_txn {s t u : State} {e : Env} {p : Port} (hc : (.next u : Result) = .next t)
    (h : u.control = (s.openPort e p).control) : ModeKept s t :=
  modeKept_of_next hc (.of_control (h.trans (control_openPort s p e)))

/-- A request whose effect leaves the outer side. -/
theorem modeKept_of_request {s t : State} {e : Env} {r : PortRequest} {right : Right} {act : State → State × Status}
    (hc : (.next ((s.openPort e r.port).request r.port right r.data act) : Result) = .next t)
    (hact : ∀ u, (act u).1.outer = u.outer) : ModeKept s t :=
  modeKept_of_txn hc (control_request _ _ _ _ fun u => control_of_outer (hact u))

/-- Every command but POWER_ON_RESET keeps the profile and the legality of the mode word. -/
theorem modeKept_exec (c : Instr) (s t : State) (hreset : ∀ k, c ≠ .powerOnReset k) (hc : exec c s = .next t) :
    ModeKept s t := by
  cases c with
  | powerOnReset straps => exact absurd rfl (hreset straps)
  | groupPeriod e d =>
    simp only [exec, execGroupPeriod] at hc
    split at hc
    · rename_i u hu
      exact modeKept_of_event hc (control_of_outer ((outer_settle u _).trans (outer_closeGroup _ d u hu)))
    · cases hc
  | laneQuiet e l => exact modeKept_of_event hc (control_of_outer ((outer_settle _ _).trans (outer_goQuiet _ l)))
  | laneActivity e l => exact modeKept_of_event hc (control_of_outer (outer_seeActivity _ l))
  | stagingWriteCompletion e => exact modeKept_of_event hc (control_stagingWriteDone _)
  | scanReadCompletion e => exact modeKept_of_event hc (control_of_outer (outer_scanReadDone _))
  | captureReadCompletion e => exact modeKept_of_event hc (control_of_outer (outer_captureReadDone _))
  | refreshCompletion e => exact modeKept_of_event hc (control_of_outer (outer_refreshDone _))
  | refreshDue e => exact modeKept_of_event hc (control_of_outer (outer_refreshFallsDue _))
  | waitDeadline e p => exact modeKept_of_event hc (control_of_outer (outer_waitReached _ p))
  | selfRefreshEntry e => exact modeKept_of_event hc (control_of_outer (outer_settleMemory _))
  | memoryExitDeadline e => exact modeKept_of_event hc (control_of_outer (outer_exitReached _))
  | leadGate e k => exact modeKept_of_event hc (control_of_outer (outer_leadTaken _ k))
  | tminGate e => exact modeKept_of_event hc (control_of_outer (outer_tminTaken _))
  | repeatDeadline e => exact modeKept_of_event hc (control_of_outer (outer_repeatTaken _))
  | plannedRepeat e => exact modeKept_of_event hc (control_of_outer (outer_plannedTaken _))
  | graceExpiry e => exact modeKept_of_event hc (control_of_outer (outer_graceTaken _))
  | scanLine e => exact modeKept_of_event hc (control_of_outer (outer_lineTaken _))
  | scanClose e => exact modeKept_of_event hc (control_of_outer (outer_closeTaken _))
  | panelReadyRise e => exact modeKept_of_event hc (control_of_outer (outer_panelRises _))
  | wakeDeadline e => exact modeKept_of_event hc (control_of_outer (outer_wakeTaken _))
  | read e p addr count => exact modeKept_of_txn hc (control_takeRead _ p addr count)
  | write e p addr data => exact modeKept_of_next hc (modeKept_openPort_takeWrite s e p false addr data)
  | maskedWrite e p addr data => exact modeKept_of_next hc (modeKept_openPort_takeWrite s e p true addr data)
  | relayModeWordWrite e p masked data => exact modeKept_of_next hc (modeKept_openPort_takeWrite s e p masked _ data)
  | enablesWrite e p masked second data => exact modeKept_of_next hc (modeKept_openPort_takeWrite s e p masked _ data)
  | identificationRead e p offset count => exact modeKept_of_txn hc (control_takeRead _ p _ count)
  | captureWindowRead e p offset count => exact modeKept_of_txn hc (control_takeCapture _ p _ count)
  | selectRelease e p fillers count => exact modeKept_of_event hc (control_releaseSelect _ p fillers count)
  | applyInput e r => exact modeKept_of_request hc outer_requestInput
  | applyPanel e r => exact modeKept_of_request hc outer_requestPanel
  | commitOverlay e r => exact modeKept_of_request hc outer_requestCommit
  | pin e r => exact modeKept_of_request hc fun u => outer_requestPin u r.port
  | release e r => exact modeKept_of_request hc fun u => outer_requestRelease u r.port
  | realign e r => exact modeKept_of_request hc outer_requestRealign
  | relayReset e r => exact modeKept_of_request hc outer_requestReset
  | nextRecord e r => exact modeKept_of_request hc fun _ => rfl
  | ackCause e p data => exact modeKept_of_txn hc (control_causeRequest _ p data _)
  | setCause e p data => exact modeKept_of_txn hc (control_causeRequest _ p data _)
  | laneTestOn e r => exact modeKept_of_request hc outer_requestTestOn
  | laneTestOff e r => exact modeKept_of_request hc outer_requestTestOff
  | badCommandTransaction e p bytes =>
    obtain rfl := Host.Outcome.next.inj hc
    split
    · exact .of_control ((control_endBad _ p _ _).trans (control_openPort s p e))
    · split
      · exact .of_control ((control_endBad _ p _ _).trans (control_openPort s p e))
      · exact .of_control (control_arrive s e)

/-- The mode word after power-on reset is legal, whatever the straps. -/
theorem powerOn_modeLegal (straps : Fin 4) : (State.powerOn straps).ModeLegal := by
  obtain ⟨-, hreset, -⟩ := invariantsHoldAtReset
  exact modeLegal_of_modeWord (s := State.reset) rfl hreset

/-- Power-on reset sets a legal word, and every other command keeps one legal. -/
theorem modeLegal_exec (c : Instr) (s t : State) (hs : s.ModeLegal) (hc : exec c s = .next t) : t.ModeLegal := by
  by_cases hreset : ∀ k, c ≠ .powerOnReset k
  · exact (modeKept_exec c s t hreset hc).legal hs
  · obtain ⟨straps, hstraps⟩ := not_forall_not.1 hreset
    subst hstraps
    obtain rfl := Host.Outcome.next.inj hc
    exact modeLegal_of_modeWord (s := State.powerOn straps) rfl (powerOn_modeLegal straps)

/-- Settles O57: only a write to the mode word and a power-on reset reach the word, and only the reset the profile. -/
theorem modeWordStaysLegal : Obligations.ModeWordStaysLegal := by
  refine ⟨fun s t hs hstep => ?_, fun c s t hreset hc => (modeKept_exec c s t hreset hc).profile⟩
  cases hp : s.pending with
  | nil =>
    rw [step_nil s hp] at hstep
    obtain rfl := Host.Outcome.next.inj hstep
    exact modeLegal_of_modeWord (s := s) rfl hs
  | cons c rest =>
    rw [step_cons c rest s hp] at hstep
    exact modeLegal_exec c { s with pending := rest } t (modeLegal_of_modeWord (s := s) rfl hs) hstep

end Sys2Proof.Machine
end

section
/-! The bytes of a transaction make its command again (R158, R161, R174, R175). -/
namespace Sys2Proof.Machine

/-! ## A header -/

/-- The three address bytes of a header are read back. -/
theorem beValue_address (a : Nat) (h : a < 2 ^ 24) :
    beValue [BitVec.ofNat 8 (a / 256 ^ 2), BitVec.ofNat 8 (a / 256 ^ 1), BitVec.ofNat 8 (a / 256 ^ 0)] = a :=
  (beValue_beBytes 3 a).trans (Nat.mod_eq_of_lt h)

section
variable (e : Env) (p : Port) (a : Nat) (data : List Byte) (ha : a < 2 ^ 24)
include ha

/-- Which command a header makes, by its command byte and its address. -/
theorem transactionOf_header (c : Byte) : transactionOf e p (header c a data) =
    if c = cmdRead then readOf e p a data.length
    else if c = cmdWrite then writeOf e p false a data
    else if c = cmdMaskedWrite then writeOf e p true a data
    else if c = cmdRequest then (requestOf e p a data).getD (.badCommandTransaction e p (header c a data))
    else .badCommandTransaction e p (header c a data) := by
  simp only [header, beBytes, List.cons_append, List.nil_append, transactionOf, beValue_address a ha]

theorem transactionOf_read : transactionOf e p (header cmdRead a data) = readOf e p a data.length := by
  rw [transactionOf_header e p a data ha, if_pos rfl]

theorem transactionOf_write (masked : Bool) :
    transactionOf e p (header (if masked then cmdMaskedWrite else cmdWrite) a data) = writeOf e p masked a data := by
  rw [transactionOf_header e p a data ha]
  cases masked <;> rfl

theorem transactionOf_request {i : Instr} (hi : requestOf e p a data = some i) :
    transactionOf e p (header cmdRequest a data) = i := by
  rw [transactionOf_header e p a data ha, hi]
  rfl

end

/-! ## The command of an address -/

/-- An address of no request (R161). -/
theorem requestOf_eq_none (e : Env) (p : Port) (a : Nat) (data : List Byte) (h : ¬ (0x0F0001 ≤ a ∧ a ≤ 0x0F000C)) :
    requestOf e p a data = none := by
  unfold requestOf
  split
  case h_13 => rfl
  all_goals omega

theorem readOf_region (e : Env) (p : Port) (a : BitVec 24) (n : Nat) (h : readAddress a = true) :
    readOf e p a.toNat n = .read e p a n := by
  simp only [readAddress, Bool.and_eq_true, decide_eq_true_eq] at h
  obtain ⟨hlow, hhigh⟩ := h
  rw [readOf, dif_neg (by omega), if_neg (by omega), BitVec.ofNat_toNat, BitVec.setWidth_eq]

theorem readOf_identification (e : Env) (p : Port) (off : Fin 4) (n : Nat) :
    readOf e p off.val n = .identificationRead e p off n := dif_pos off.isLt

theorem readOf_captureWindow (e : Env) (p : Port) (off : BitVec 23) (n : Nat) :
    readOf e p (0x800000 + off.toNat) n = .captureWindowRead e p off n := by
  rw [readOf, dif_neg (by omega), if_pos (by omega), Nat.add_sub_cancel_left, BitVec.ofNat_toNat, BitVec.setWidth_eq]

/-- A write at an address of its own row is that row's command, with all 24 bits of the address. -/
theorem writeOf_region (e : Env) (p : Port) (masked : Bool) (a : BitVec 24) (data : List Byte)
    (h : writeAddress a = true) :
    writeOf e p masked a.toNat data = if masked then .maskedWrite e p a data else .write e p a data := by
  simp only [writeAddress, Bool.and_eq_true, decide_eq_true_eq] at h
  obtain ⟨⟨hmode, hfirst⟩, hsecond⟩ := h
  have hne : ∀ n : Nat, a ≠ BitVec.ofNat 24 n → a.toNat ≠ n := fun n hn h => hn (by
    rw [← h, BitVec.ofNat_toNat, BitVec.setWidth_eq])
  rw [writeOf, if_neg (hne _ hmode), if_neg (hne _ hfirst), if_neg (hne _ hsecond), BitVec.ofNat_toNat, BitVec.setWidth_eq]

theorem writeOf_enables (e : Env) (p : Port) (masked second : Bool) (data : List Byte) :
    writeOf e p masked (if second then 7 else 6) data = .enablesWrite e p masked second data := by
  cases second <;> rfl

/-- Bytes that are no command and no known request make the command of that row. -/
theorem transactionOf_bad (e : Env) (p : Port) (bytes : List Byte) (h : badBytes bytes = true) :
    transactionOf e p bytes = .badCommandTransaction e p bytes := by
  match bytes with
  | [] | [_] | [_, _] | [_, _, _] => rfl
  | c :: a2 :: a1 :: a0 :: data =>
    simp only [badBytes, badCommandBytes, unknownRequestBytes, Bool.or_eq_true, Bool.not_eq_true', Bool.or_eq_false_iff,
      decide_eq_false_iff_not, Bool.and_eq_true, decide_eq_true_eq, ← Bool.decide_and] at h
    rw [transactionOf]
    rcases h with ⟨⟨⟨hread, hwrite⟩, hmasked⟩, hrequest⟩ | ⟨hrequest, haddr⟩
    · simp only [hread, hwrite, hmasked, hrequest, if_false]
    · subst hrequest
      rw [requestOf_eq_none e p _ data haddr]
      rfl

/-- Settles O55: each row's bytes are a header whose address and command byte lead back to that row. -/
theorem transactionBytesRoundTrip : Obligations.TransactionBytesRoundTrip := by
  intro i e p bytes hwf hsender hwire
  cases i with
  | read e' p' a n =>
    cases hsender; cases hwire
    rw [transactionOf_read e p _ _ a.isLt, List.length_replicate, readOf_region e p a n hwf]
  | identificationRead e' p' off n =>
    cases hsender; cases hwire
    rw [transactionOf_read e p _ _ (by omega), List.length_replicate, readOf_identification]
  | captureWindowRead e' p' off n =>
    cases hsender; cases hwire
    rw [transactionOf_read e p _ _ (by omega), List.length_replicate, readOf_captureWindow]
  | write e' p' a data =>
    cases hsender; cases hwire
    exact (transactionOf_write e p _ data a.isLt false).trans (writeOf_region e p false a data hwf)
  | maskedWrite e' p' a data =>
    cases hsender; cases hwire
    exact (transactionOf_write e p _ data a.isLt true).trans (writeOf_region e p true a data hwf)
  | relayModeWordWrite e' p' masked data =>
    cases hsender; cases hwire
    exact transactionOf_write e p _ data (by decide) masked
  | enablesWrite e' p' masked second data =>
    cases hsender; cases hwire
    rw [transactionOf_write e p _ data (by cases second <;> decide), writeOf_enables]
  | badCommandTransaction e' p' bytes' =>
    cases hsender; cases hwire
    exact transactionOf_bad e p bytes hwf
  | applyInput _ _ | applyPanel _ _ | commitOverlay _ _ | pin _ _ | release _ _ | realign _ _ | relayReset _ _
  | nextRecord _ _ | ackCause _ _ _ | setCause _ _ _ | laneTestOn _ _ | laneTestOff _ _ =>
    cases hsender; cases hwire
    exact transactionOf_request e _ _ _ (by decide) rfl
  | _ => cases hsender

end Sys2Proof.Machine
end

section
/-! Transactions that leave everything but their port's own record: a READ of a region, a request without its right, bytes
that make no command (R158, R159, R161, R162); and the release of the select line (R160). -/
namespace Sys2Proof.Machine

/-! ## READ (R159) -/

/-- The region of an address and the offset in it: in the event view the offset is the address itself. -/
theorem offset_eventView (a off : Nat) (h : regionOf a = some (.eventView, off)) : off = a := by
  by_cases hfirst : a < 0x000100
  · rw [regionOf, if_pos hfirst] at h
    exact (congrArg Prod.snd (Option.some.inj h)).symm
  · rw [regionOf, if_neg hfirst] at h
    simp only [ite_eq_iff, Option.some.injEq, Prod.mk.injEq, reduceCtorEq, false_and, and_false, or_false] at h

/-- A READ that starts past the identification freezes nothing. -/
theorem readRegion_permitted (s : State) (p : Port) (addr : BitVec 24) (r : Region) (off n : Nat)
    (hmay : s.mayRead p r = true) (hoff : r = .eventView → 4 ≤ off) : s.readRegion p addr r off n =
      s.endTxn p (accessStatus r off n) (s.regionBytes p r off n) := by
  have hfreeze : s.freezeOnRead p r off = s := if_neg fun ⟨hr, hlt⟩ => (hoff hr).not_gt hlt
  rw [State.readRegion, if_pos hmay, hfreeze]

/-- Settles O31: past the identification no freeze comes with the read, and only the end of the transaction is left. -/
theorem readReturnsTheRegion : Obligations.ReadReturnsTheRegion := by
  intro e p addr n r off s htxn haddr hr hpast hmay
  have hoff : r = .eventView → 4 ≤ off := fun h => by
    subst h
    rwa [offset_eventView _ off haddr]
  show Host.Outcome.next ((s.openPort e p).takeRead p addr n) = _
  rw [openPort_of_no_txn _ _ _ htxn, takeRead_region _ p addr n r off haddr hr,
    readRegion_permitted _ p addr r off n ((arrive_mayRead s e p r).trans hmay) hoff, endTxn_eq, arrive_port]
  rfl

/-! ## Requests without their right (R161, R162) -/

/-- A request of a port without its right, on a port with no transaction open. -/
theorem request_openPort_refused (e : Env) (p : Port) (right : Right) (data : List Byte) (s : State)
    (act : State → State × Status) (htxn : (s.port p).txn = none) (hr : s.hasRight p right = false) :
    (s.openPort e p).request p right data act = (s.arrive e).setPort p
      { s.port p with
        prevStatus := .notPermitted, txn := none
        dataOut := [(s.port p).prevStatus.code, 0, 0, 0] ++ List.replicate data.length 0 } := by
  rw [openPort_of_no_txn _ _ _ htxn, request_refused _ _ _ _ _ ((arrive_hasRight s e p right).trans hr), endTxn_eq,
    arrive_port]
  rfl

/-- Settles O41: each of the ten requests begins with the one check of its right. -/
theorem requestsNeedTheirRight : Obligations.RequestsNeedTheirRight := by
  intro e p data s htxn c r hc hr
  have hrefused := fun act => request_openPort_refused e p r data s act htxn hr
  simp only [List.mem_cons, Prod.mk.injEq, List.not_mem_nil, or_false] at hc
  rcases hc with ⟨rfl, rfl⟩ | ⟨rfl, rfl⟩ | ⟨rfl, rfl⟩ | ⟨rfl, rfl⟩ | ⟨rfl, rfl⟩ | ⟨rfl, rfl⟩ | ⟨rfl, rfl⟩ | ⟨rfl, rfl⟩ |
    ⟨rfl, rfl⟩ | ⟨rfl, rfl⟩ <;> exact congrArg Host.Outcome.next (hrefused _)

/-! ## Bytes that make no command (R158, R161) -/

/-- Settles O54: bytes that are no command and no known request end in `endBad`, with the status of their kind. -/
theorem badTransactionsDoNothing : Obligations.BadTransactionsDoNothing := by
  intro e p bytes s htxn hbad
  have hend : ∀ st, (s.openPort e p).endBad p st bytes.length = (s.arrive e).setPort p
      { s.port p with
        prevStatus := st, txn := none
        dataOut := ((s.port p).prevStatus.code :: List.replicate bytes.length 0).take bytes.length } := fun st => by
    rw [openPort_of_no_txn _ _ _ htxn, State.endBad, arrive_port]
    rfl
  refine congrArg Host.Outcome.next ?_
  by_cases hcommand : badCommandBytes bytes = true
  · rw [if_pos hcommand, if_pos hcommand, hend]
  · have hrequest : unknownRequestBytes bytes = true := (Bool.or_eq_true_iff.1 hbad).resolve_left hcommand
    rw [if_neg hcommand, if_neg hcommand, if_pos hrequest, hend]

/-! ## The release of the select line (R160) -/

theorem releaseSelect_of_waiting (s : State) (p : Port) (fillers count : Nat) (h : (s.port p).txn = some .waiting) :
    s.releaseSelect p fillers count = ((s.withdrawCapture p).endTxn p .captureLate (zeros count)).settleMemory := by
  rw [State.releaseSelect, h]

theorem releaseSelect_of_ready (s : State) (p : Port) (fillers count : Nat) {st : Status} {data : List Byte}
    (h : (s.port p).txn = some (.ready st data)) :
    s.releaseSelect p fillers count = s.endTxn p st (captureOut fillers count data) := by
  rw [State.releaseSelect, h]

/-- The port's read leaves its queue and its transaction ends at one event. -/
theorem captureAt_withdrawn (s : State) (p : Port) (st : Status) (data : List Byte) :
    ((s.withdrawCapture p).endTxn p st data).captureAt p = (none, none) :=
  Prod.ext (PerPort.get_set_same _ p none) (congrArg PortCtl.txn (port_endTxn_same _ p st data))

theorem prevStatus_of_outer {s t : State} (h : t.outer = s.outer) (p : Port) :
    (t.port p).prevStatus = (s.port p).prevStatus := by
  have hget : ∀ u : State, u.outer.statuses.get p = (u.port p).prevStatus := fun u => PerPort.get_map _ _ p
  rw [← hget, ← hget, h]

theorem dataOut_of_outer {s t : State} (h : t.outer = s.outer) (p : Port) : (t.port p).dataOut = (s.port p).dataOut := by
  have hget : ∀ u : State, u.outer.dataOut.get p = (u.port p).dataOut := fun u => PerPort.get_map _ _ p
  rw [← hget, ← hget, h]

/-- Settles O40: before the result the read is withdrawn, and what follows at the memory port leaves the ended
transaction; after it the transaction ends with the result. -/
theorem selectReleaseEndsTheTransaction : Obligations.SelectReleaseEndsTheTransaction := by
  intro e p fillers count s
  refine ⟨fun hwait => ?_, fun st data hready => ?_⟩
  · have hrelease := releaseSelect_of_waiting (s.arrive e) p fillers count ((congrArg _ (arrive_port s e p)).trans hwait)
    have hended := captureAt_withdrawn (s.arrive e) p .captureLate (zeros count)
    have hport := port_endTxn_same ((s.arrive e).withdrawCapture p) p .captureLate (zeros count)
    generalize hu : ((s.arrive e).withdrawCapture p).endTxn p .captureLate (zeros count) = u at hrelease hended hport
    have hsettled := (captureAt_settleMemory u p (congrArg Prod.fst hended :)).trans hended
    have houter := outer_settleMemory u
    have hold : (((s.arrive e).withdrawCapture p).port p).prevStatus = (s.port p).prevStatus :=
      congrArg PortCtl.prevStatus (arrive_port s e p)
    refine ⟨_, congrArg Host.Outcome.next hrelease, (congrArg Prod.snd hsettled :), ?_, (congrArg Prod.fst hsettled :), ?_⟩
    · rw [prevStatus_of_outer houter, hport]
      rfl
    · rw [dataOut_of_outer houter, hport, hold]
      rfl
  · refine congrArg Host.Outcome.next ?_
    rw [releaseSelect_of_ready _ p fillers count ((congrArg _ (arrive_port s e p)).trans hready), endTxn_eq, arrive_port]
    rfl

end Sys2Proof.Machine
end

section
/-! ACK_CAUSE and SET_CAUSE: one cause of one port's set (R161, R166 to R170). -/
namespace Sys2Proof.Machine

/-! ## The cause a byte names (R161, R165) -/

theorem Cause.number_pos (c : Cause) : 0 < c.number := by cases c <;> decide
theorem Cause.number_le (c : Cause) : c.number ≤ 12 := by cases c <;> decide
theorem Cause.mem_allCauses (c : Cause) : c ∈ allCauses := List.mem_of_getElem? (allCauses_index c)

theorem causeOfNumber_number (c : Cause) : causeOfNumber (BitVec.ofNat 8 c.number).toNat = some c := by
  cases c <;> rfl

theorem causeOfNumber_eq_none (b : Byte) (h : b = 0 ∨ 12 < b.toNat) : causeOfNumber b.toNat = none := by
  refine List.find?_eq_none.2 fun c _ hc => ?_
  have hpos := c.number_pos
  have hle := c.number_le
  rw [of_decide_eq_true hc] at hpos hle
  rcases h with rfl | hgt
  · exact hpos.ne rfl
  · exact hgt.not_ge hle

theorem hasRight_events (s : State) (p : Port) : s.hasRight p .events = true := by
  unfold State.hasRight
  generalize s.peu.profile = profile
  fin_cases profile <;> cases p <;> rfl

/-! ## The two requests (R161) -/

section
variable (e : Env) (p : Port) (rest : List Byte) (s : State) (f : PortCtl → Cause → PortCtl)
  (htxn : (s.port p).txn = none)
include htxn

/-- A first byte that names a cause: the request's effect on the port, answered OK. -/
theorem causeRequest_of_cause (c : Cause) :
    (s.openPort e p).causeRequest p (BitVec.ofNat 8 c.number :: rest) f =
      ((s.arrive e).setPort p (f (s.port p) c)).endTxn p .ok (zeros (rest.length + 1)) := by
  rw [openPort_of_no_txn _ _ _ htxn, State.causeRequest]
  simp only [List.head?_cons, Option.bind_some, causeOfNumber_number, hasRight_events, if_true, arrive_port,
    List.length_cons]

theorem causeRequest_of_no_byte :
    (s.openPort e p).causeRequest p [] f = (s.arrive e).endTxn p .badCommand [] := by
  rw [openPort_of_no_txn _ _ _ htxn]
  rfl

theorem causeRequest_of_unknown (b : Byte) (h : b = 0 ∨ 12 < b.toNat) :
    (s.openPort e p).causeRequest p (b :: rest) f =
      (s.arrive e).endTxn p .badCommand (List.replicate (rest.length + 1) 0) := by
  rw [openPort_of_no_txn _ _ _ htxn, State.causeRequest]
  simp only [List.head?_cons, Option.bind_some, causeOfNumber_eq_none b h]
  rfl

end

section
variable (s : State) (p : Port) (x : PortCtl) (st : Status) (data : List Byte)

/-- The port once its record is replaced and its transaction has ended. -/
theorem port_setPort_endTxn : ((s.setPort p x).endTxn p st data).port p =
    x.finish st ([x.prevStatus.code, 0, 0, 0] ++ data) := by
  rw [port_endTxn_same, port_setPort_same]

theorem port_setPort_endTxn_other (q : Port) (h : q ≠ p) :
    ((s.setPort p x).endTxn p st data).port q = s.port q := by
  rw [port_endTxn_other _ _ _ _ _ h, port_setPort_other _ _ _ _ h]

end

/-! ## ACK_CAUSE (R169) -/

theorem flags_ack_same (x : PortCtl) (c : Cause) :
    (x.ack c).flags c = { pending := false, repeated := false, detail := 0 } := by
  simp [PortCtl.flags, PortCtl.ack]

theorem flags_ack_other (x : PortCtl) (c b : Cause) (h : b ≠ c) : (x.ack c).flags b = x.flags b := by
  have hi : ¬ c.index.val = b.index.val := fun hv => h (Cause.index_injective (Fin.ext hv.symm))
  simp [PortCtl.flags, PortCtl.ack, hi]

/-- Settles O52: a known number takes the cause out of the port's set, any other only ends the transaction. -/
theorem ackCauseClearsOne : Obligations.AckCauseClearsOne := by
  intro e p rest s htxn
  refine ⟨fun c _ => ?known, ?missing, fun b hb => ?unknown⟩
  case missing => exact congrArg Host.Outcome.next (causeRequest_of_no_byte e p s _ htxn)
  case unknown => exact congrArg Host.Outcome.next (causeRequest_of_unknown e p rest s _ htxn b hb)
  case known =>
    refine ⟨_, congrArg Host.Outcome.next (causeRequest_of_cause e p rest s PortCtl.ack htxn c), ?_⟩
    have hport := port_setPort_endTxn (s.arrive e) p ((s.port p).ack c) .ok (zeros (rest.length + 1))
    refine ⟨?status, ?out, ?cleared, fun b hb => ?others, ?freeze, ?trap, ?enables, fun q hq => ?port, rfl⟩
    case port => rw [port_setPort_endTxn_other _ _ _ _ _ q hq, arrive_port]
    all_goals rw [hport]
    case cleared => exact flags_ack_same _ c
    case others => exact flags_ack_other _ c b hb
    all_goals rfl

/-! ## SET_CAUSE (R166 to R168, R170) -/

/-- After a raising the cause is signalled if it is enabled, and every other cause as before. -/
theorem signalled_enter (x : PortCtl) (c b : Cause) (d : BitVec 16) :
    (x.enter c d).signalled b = (x.signalled b || (decide (b = c) && x.enabled c)) := by
  have henabled : (x.enter c d).enabled b = x.enabled b := rfl
  rw [PortCtl.signalled, henabled]
  by_cases h : b = c
  · subst h
    rw [flags_enter_same, pending_enter, PortCtl.signalled, decide_eq_true rfl]
    cases (x.flags b).pending <;> cases x.enabled b <;> rfl
  · rw [flags_enter_other _ _ _ _ h, decide_eq_false h, Bool.false_and, Bool.or_false, PortCtl.signalled]

theorem line_enter (x : PortCtl) (c : Cause) (d : BitVec 16) :
    (x.enter c d).line = (x.line || x.enabled c) := by
  refine Bool.eq_iff_iff.2 ?_
  simp only [PortCtl.line, List.any_eq_true, signalled_enter, Bool.or_eq_true, Bool.and_eq_true, decide_eq_true_eq]
  constructor
  · rintro ⟨b, hb, hold | ⟨rfl, henabled⟩⟩
    · exact .inl ⟨b, hb, hold⟩
    · exact .inr henabled
  · rintro (⟨b, hb, hold⟩ | henabled)
    · exact ⟨b, hb, .inl hold⟩
    · exact ⟨c, c.mem_allCauses, .inr ⟨rfl, henabled⟩⟩

/-- The first cause of a list in order of priority, with one cause more that satisfies the condition: that cause, if it
comes before the first that did, and the first as before otherwise. -/
theorem find?_or_eq (p : Cause → Bool) (c : Cause) (l : List Cause) (hl : l.Pairwise fun a b => a.number < b.number)
    (hc : c ∈ l) : l.find? (fun b => p b || decide (b = c)) =
      if (l.find? p).all fun b => decide (c.number < b.number) then some c else l.find? p := by
  induction l with
  | nil => cases hc
  | cons a l ih =>
    obtain ⟨hfirst, hrest⟩ := List.pairwise_cons.1 hl
    by_cases ha : p a = true
    · have hle : ¬ c.number < a.number := by
        rcases List.mem_cons.1 hc with rfl | hmem
        · exact lt_irrefl _
        · exact (hfirst c hmem).not_gt
      simp [ha, hle]
    · rcases List.mem_cons.1 hc with rfl | hmem
      · have hlater : (l.find? p).all (fun b => decide (c.number < b.number)) = true := by
          cases hfind : l.find? p with
          | none => rfl
          | some b => exact decide_eq_true (hfirst b (List.mem_of_find?_eq_some hfind))
        simp [ha, hlater]
      · have hne : a ≠ c := fun h => (hfirst c hmem).ne (congrArg Cause.number h)
        simpa [ha, hne] using ih hrest hmem

/-- After a raising the most urgent cause is the raised one if it is enabled and comes before the one named so far. -/
theorem urgent_enter (x : PortCtl) (c : Cause) (d : BitVec 16) : (x.enter c d).urgent =
    if x.enabled c && (x.urgent.all fun b => decide (c.number < b.number)) then some c else x.urgent := by
  have hsignalled : (x.enter c d).signalled = fun b => x.signalled b || (decide (b = c) && x.enabled c) :=
    funext fun b => signalled_enter x c b d
  rw [PortCtl.urgent, hsignalled]
  cases henabled : x.enabled c
  · simp [PortCtl.urgent]
  · simpa [PortCtl.urgent] using find?_or_eq x.signalled c allCauses (by decide) c.mem_allCauses

/-- Settles O53: a known number enters the cause with the detail TEST, any other only ends the transaction. -/
theorem setCauseEntersOne : Obligations.SetCauseEntersOne := by
  intro e p rest s htxn
  refine ⟨fun c _ => ?known, ?missing, fun b hb => ?unknown⟩
  case missing => exact congrArg Host.Outcome.next (causeRequest_of_no_byte e p s _ htxn)
  case unknown => exact congrArg Host.Outcome.next (causeRequest_of_unknown e p rest s _ htxn b hb)
  case known =>
    refine ⟨_, congrArg Host.Outcome.next
      (causeRequest_of_cause e p rest s (fun x c => x.enter c testDetail) htxn c), ?_⟩
    have hport := port_setPort_endTxn (s.arrive e) p ((s.port p).enter c testDetail) .ok (zeros (rest.length + 1))
    refine ⟨?status, ?out, ?entered, fun b hb => ?others, ?line, ?named, ?freeze, ?trap, ?enables, fun q hq => ?port, rfl⟩
    case port => rw [port_setPort_endTxn_other _ _ _ _ _ q hq, arrive_port]
    all_goals rw [hport]
    case entered => exact flags_enter_same _ c testDetail
    case others => exact flags_enter_other _ c b testDetail hb
    case line => exact line_enter _ c testDetail
    case named =>
      rw [← urgent_enter _ c testDetail]
      rfl
    all_goals rfl

end Sys2Proof.Machine
end

section
/-! The enables in every form of a write (R159, R167, R171, R179). -/
namespace Sys2Proof.Machine

/-! ## The twelve enables as two bytes (R171) -/

/-- The bits of two bytes, the first byte the more significant. -/
theorem testBit_two_bytes (a b : Byte) (i : Nat) :
    (a.toNat * 256 + b.toNat).testBit i = if i < 8 then b.getLsbD i else a.getLsbD (i - 8) := by
  have h := Nat.testBit_two_pow_mul_add (i := 8) a.toNat b.isLt i
  rw [Nat.mul_comm] at h
  exact h

theorem beValue_two_bytes (a b : Byte) : beValue [a, b] = a.toNat * 256 + b.toNat := by
  simp [beValue]

theorem beBytes_two (v : Nat) : beBytes 2 v = [BitVec.ofNat 8 (v / 256), BitVec.ofNat 8 v] := by
  simp [beBytes]

/-- The enables once each of their two bytes is merged with a mask and a value. -/
def enablesMerged (old : BitVec 12) (hm hv lm lv : Byte) : BitVec 12 :=
  BitVec.ofNat 12 (beValue [mergeByte (BitVec.ofNat 8 (old.toNat / 256)) hm hv, mergeByte (BitVec.ofNat 8 old.toNat) lm lv])

/-- Each mask chooses, bit by bit, between the value and the old enable. -/
theorem getLsbD_enablesMerged (old : BitVec 12) (hm hv lm lv : Byte) (i : Nat) (hi : i < 12) :
    (enablesMerged old hm hv lm lv).getLsbD i =
      if i < 8 then (if lm.getLsbD i then lv.getLsbD i else old.getLsbD i)
      else (if hm.getLsbD (i - 8) then hv.getLsbD (i - 8) else old.getLsbD i) := by
  rw [enablesMerged, BitVec.getLsbD_ofNat, decide_eq_true hi, Bool.true_and, beValue_two_bytes, testBit_two_bytes,
    getLsbD_mergeByte, getLsbD_mergeByte]
  by_cases hlow : i < 8
  · have hold : (BitVec.ofNat 8 old.toNat).getLsbD i = old.getLsbD i := by
      rw [BitVec.getLsbD_ofNat, decide_eq_true hlow, Bool.true_and, BitVec.testBit_toNat]
    rw [if_pos hlow, if_pos hlow, hold]
  · have hold : (BitVec.ofNat 8 (old.toNat / 256)).getLsbD (i - 8) = old.getLsbD i := by
      have hdiv : (old.toNat / 2 ^ 8).testBit (i - 8) = old.toNat.testBit i := by
        rw [Nat.testBit_div_two_pow, Nat.sub_add_cancel (Nat.le_of_not_lt hlow)]
      rw [BitVec.getLsbD_ofNat, decide_eq_true (by omega), Bool.true_and, ← BitVec.testBit_toNat]
      exact hdiv
    rw [if_neg hlow, if_neg hlow, hold]

/-- The forms of a write to the enables that reach one byte or both by masks, with the masks and values of the two bytes.
A byte the write does not reach has mask 0. -/
def enablesForms (hm hv lm lv : Byte) : List (Bool × Bool × List Byte × Byte × Byte × Byte × Byte) :=
  [(false, false, [hv], 0xFF, hv, 0, 0), (false, true, [lv], 0, 0, 0xFF, lv),
   (true, false, [hm, hv], hm, hv, 0, 0), (true, true, [lm, lv], 0, 0, lm, lv),
   (true, false, [hm, hv, lm, lv], hm, hv, lm, lv)]

theorem mergeByte_none (x v : Byte) : mergeByte x 0#8 v = x := by
  refine BitVec.eq_of_getLsbD_eq fun i _ => ?_
  rw [getLsbD_mergeByte, BitVec.getLsbD_zero, if_neg Bool.false_ne_true]

/-- Each form reaches no byte past the enables, and merges the bytes it reaches. -/
theorem enablesAfter_of_form (old : BitVec 12) {hm hv lm lv : Byte} {masked second : Bool} {data : List Byte}
    (h : (masked, second, data, hm, hv, lm, lv) ∈ enablesForms hm hv lm lv) :
    (if second then 7 else 6) + (writePairs masked data).length ≤ 8 ∧
      enablesAfter old (if second then 1 else 0) (writePairs masked data) = enablesMerged old hm hv lm lv := by
  simp only [enablesForms, List.mem_cons, Prod.mk.injEq, List.not_mem_nil, or_false, true_and, and_true] at h
  simp only [enablesAfter, enablesMerged, beBytes_two]
  generalize BitVec.ofNat 8 (old.toNat / 256) = hi
  generalize BitVec.ofNat 8 old.toNat = lo
  rcases h with ⟨rfl, rfl, rfl, rfl, rfl, rfl⟩ | ⟨rfl, rfl, rfl, rfl, rfl, rfl⟩ | ⟨rfl, rfl, rfl, rfl, rfl⟩ |
    ⟨rfl, rfl, rfl, rfl, rfl⟩ | ⟨rfl, rfl, rfl⟩ <;>
    simp [mergeAt, mergeBytes, writePairs, plainPairs, maskedPairs, mergeByte_none]

/-- A WRITE of both bytes puts them in place of the old ones. -/
theorem enablesAfter_of_two (old : BitVec 12) (hi lo : Byte) :
    enablesAfter old 0 (plainPairs [hi, lo]) = BitVec.ofNat 12 (hi.toNat * 256 + lo.toNat) := by
  rw [enablesAfter, beBytes_two, ← beValue_two_bytes]
  simp only [mergeAt, plainPairs, List.map_cons, List.map_nil, List.take_zero, List.drop_zero, List.nil_append, mergeBytes,
    mergeByte_full]

/-! ## The write -/

theorem mayWrite_enables (s : State) (p : Port) (off n : Nat) (hlow : 6 ≤ off) (hhigh : off + n ≤ 8) :
    s.mayWrite p .eventView off n = true := by
  simp only [State.mayWrite, Region.writeRight, hasRight_events, Region.writableBytes, decide_eq_true hlow,
    decide_eq_true hhigh, Bool.and_self, Bool.or_true]

/-- The port's record with other enables. -/
def PortCtl.withEnables (x : PortCtl) (enables : BitVec 12) : PortCtl := { x with enables := enables }

/-- A write to the enables that stays within their two bytes. -/
theorem exec_enablesWrite (e : Env) (p : Port) (masked second : Bool) (data : List Byte) (s : State)
    (htxn : (s.port p).txn = none) (hlen : (if second then 7 else 6) + (writePairs masked data).length ≤ 8) :
    exec (.enablesWrite e p masked second data) s = .next (((s.arrive e).setPort p ((s.port p).withEnables
      (enablesAfter (s.port p).enables (if second then 1 else 0) (writePairs masked data)))).endTxn p .ok
        (zeros data.length)) := by
  show Host.Outcome.next ((s.openPort e p).takeWrite p masked _ data) = _
  have hstatus : accessStatus .eventView (if second then 7 else 6) (writePairs masked data).length = .ok :=
    if_pos (hlen.trans (by decide))
  rw [openPort_of_no_txn _ _ _ htxn, takeWrite_of_mayWrite _ p masked _ data .eventView _ (regionOf_enables second)
    (mayWrite_enables _ p _ _ (by cases second <;> decide) hlen) nofun, hstatus]
  cases second <;> simp only [State.writeRegion, arrive_port] <;> rfl

/-- A write to the enables changes those of its port, and nothing else but the record of the transaction. -/
theorem enables_written (e : Env) (p : Port) (masked second : Bool) (data : List Byte) (s : State) (enables : BitVec 12)
    (htxn : (s.port p).txn = none) (hlen : (if second then 7 else 6) + (writePairs masked data).length ≤ 8)
    (henables : enablesAfter (s.port p).enables (if second then 1 else 0) (writePairs masked data) = enables) :
    ∃ t, exec (.enablesWrite e p masked second data) s = .next t ∧
      t.port p = ((s.port p).withEnables enables).finish .ok
        ([(s.port p).prevStatus.code, 0, 0, 0] ++ zeros data.length) ∧
      { t.peu with ports := s.peu.ports } = s.peu ∧ (∀ q, q ≠ p → t.port q = s.port q) ∧
      { t with peu := s.peu } = { s.arrive e with peu := s.peu } := by
  have hexec := exec_enablesWrite e p masked second data s htxn hlen
  rw [henables] at hexec
  refine ⟨_, hexec, port_setPort_endTxn _ p _ .ok _, ?_, fun q hq => ?_, rfl⟩
  · exact congrArg (fun x : Peu => { x with ports := s.peu.ports }) (arrive_peu s e)
  · rw [port_setPort_endTxn_other _ _ _ _ _ q hq, arrive_port]

/-- The line is asserted when a pending cause's bit is set among the enables. -/
theorem line_withEnables_iff (x : PortCtl) (n : Nat) : (x.withEnables (BitVec.ofNat 12 n)).line = true ↔
    ∃ c ∈ allCauses, (x.flags c).pending = true ∧ n.testBit (c.number - 1) = true := by
  have henabled : ∀ c : Cause, (BitVec.ofNat 12 n).getLsbD (c.number - 1) = n.testBit (c.number - 1) := fun c => by
    have hle := c.number_le
    rw [BitVec.getLsbD_ofNat, decide_eq_true (by omega), Bool.true_and]
  have hsignalled : ∀ c : Cause, (x.withEnables (BitVec.ofNat 12 n)).signalled c =
      ((x.flags c).pending && n.testBit (c.number - 1)) := fun c => congrArg _ (henabled c)
  simp only [PortCtl.line, List.any_eq_true, hsignalled, Bool.and_eq_true]

/-- Settles O37: every form is a merge of the two bytes, and only the port's enables take it. -/
theorem enablesWriteSetsTheLine : Obligations.EnablesWriteSetsTheLine := by
  refine ⟨fun e p hi lo s htxn => ?_, fun e p hm hv lm lv masked second data s htxn hform => ?_⟩
  · obtain ⟨t, hexec, hport, hpeu, hother, hrest⟩ := enables_written e p false false [hi, lo] s _ htxn (Nat.le_refl 8)
      (enablesAfter_of_two (s.port p).enables hi lo)
    refine ⟨t, hexec, ?_⟩
    rw [hport]
    exact ⟨rfl, rfl, rfl, rfl, line_withEnables_iff (s.port p) _, rfl, hpeu, hother, hrest⟩
  · obtain ⟨hlen, hafter⟩ := enablesAfter_of_form (s.port p).enables hform
    obtain ⟨t, hexec, hport, hpeu, hother, hrest⟩ := enables_written e p masked second data s _ htxn hlen hafter
    refine ⟨t, hexec, ?_⟩
    rw [hport]
    exact ⟨rfl, getLsbD_enablesMerged (s.port p).enables hm hv lm lv, rfl, rfl, rfl, hpeu, hother, hrest⟩

end Sys2Proof.Machine
end

section
/-! A READ of the identification: its bytes, and the freeze that comes with it (R168). -/
namespace Sys2Proof.Machine

/-! ## The freeze (R168) -/

theorem named_eq_or (x : PortCtl) : x.named = x.frozen.or x.urgent := by
  rw [PortCtl.named]
  cases x.frozen <;> rfl

/-- The freeze does not change which cause the identification names: it fixes the one named, or none. -/
theorem named_freeze (x : PortCtl) : x.freeze.named = x.named :=
  calc x.freeze.named
      = x.named.or x.urgent := named_eq_or x.freeze
    _ = x.frozen.or (x.urgent.or x.urgent) := by rw [named_eq_or, Option.or_assoc]
    _ = x.named := by rw [Option.or_self, ← named_eq_or]

/-! ## The read (R159, R168) -/

theorem regionOf_identification (off : Fin 4) :
    regionOf (BitVec.ofNat 24 off.val).toNat = some (.eventView, off.val) := by
  fin_cases off <;> rfl

/-- Both ports may read the event view, under every access profile (R162). -/
theorem mayRead_eventView (s : State) (p : Port) : s.mayRead p .eventView = true := by
  simp only [State.mayRead, Region.readRights, List.any_cons, hasRight_events, Bool.true_or]

/-- The event view holds nothing that the arrival of a command touches. -/
theorem arrive_regionBytes_eventView (s : State) (e : Env) (p : Port) (off n : Nat) :
    (s.arrive e).regionBytes p .eventView off n = s.regionBytes p .eventView off n := by
  simp only [State.regionBytes, State.regionFields, State.eventBytes, arrive_port, arrive_peu]

/-- A READ that starts in the identification freezes the port and ends with the bytes from before the freeze. -/
theorem readRegion_identification (s : State) (p : Port) (addr : BitVec 24) (off : Fin 4) (n : Nat) :
    s.readRegion p addr .eventView off.val n =
      (s.setPort p (s.port p).freeze).endTxn p (accessStatus .eventView off.val n)
        (s.regionBytes p .eventView off.val n) := by
  rw [State.readRegion, if_pos (mayRead_eventView s p), State.freezeOnRead, if_pos ⟨rfl, off.isLt⟩]

theorem exec_identificationRead (e : Env) (p : Port) (off : Fin 4) (n : Nat) (s : State)
    (htxn : (s.port p).txn = none) :
    exec (.identificationRead e p off n) s = .next (((s.arrive e).setPort p (s.port p).freeze).endTxn p
      (accessStatus .eventView off.val n) (s.regionBytes p .eventView off.val n)) := by
  show Host.Outcome.next ((s.openPort e p).takeRead p _ n) = _
  rw [openPort_of_no_txn _ _ _ htxn, takeRead_region _ p _ n .eventView _ (regionOf_identification off) nofun,
    readRegion_identification, arrive_port, arrive_regionBytes_eventView]

/-- Settles O38: the freeze and the end of the transaction are all that happens, and the freeze leaves the cause named. -/
theorem identificationReadFreezes : Obligations.IdentificationReadFreezes := by
  intro e p off n s htxn
  refine ⟨_, exec_identificationRead e p off n s htxn, ?frozen, ?named, ?out, ?causes, fun q hq => ?other, rfl⟩
  case other => rw [port_setPort_endTxn_other _ _ _ _ _ q hq, arrive_port]
  all_goals rw [port_setPort_endTxn]
  case named => exact named_freeze (s.port p)
  all_goals rfl

end Sys2Proof.Machine
end

section
/-! What a step does with a command waiting. -/
namespace Sys2Proof.Machine

/-- Settles O1: `step_cons` for the state whose queue is `c :: rest`; its own queue is then overwritten by `rest`. -/
theorem stepRunsTheFrontCommand : Obligations.StepRunsTheFrontCommand := fun c rest s =>
  step_cons c rest { s with pending := c :: rest } rfl

end Sys2Proof.Machine
end
